-- ==== Sys2Proof/Word.lean ====
section
/-! DEFINITION. The word types of the block: the byte every transfer moves, the 16-bit raw value, the request word of
the host port and the operation code of the transaction register. -/

namespace Sys2Proof

/-- R7: a byte is an unsigned 8-bit value. -/
abbrev Byte := BitVec 8

/-- R27: a raw concentration, 16 bits, unsigned. -/
abbrev Raw := BitVec 16

/-- R24: the three values the operation register `op` names. -/
inductive Op where
  | reportMode
  | query
  | workPeriod
  deriving DecidableEq, Repr

/-- R84: the host's request word: `req_op` (2 bits) and `req_arg` (8 bits). The spec gives the two fields and no bit
positions, so they are kept as two fields (log entry 15). -/
structure ReqWord where
  reqOp : BitVec 2
  reqArg : Byte
  deriving DecidableEq, Repr

end Sys2Proof
end

