-- ==== Sys2Proof/Machine/Constants.lean ====
section
/-! DEFINITION. The hardwired protocol constants of R5 and R26: no path writes them and no reset changes them, so they
are constants of the model and no fields of State. -/

namespace Sys2Proof.Const

/-- R5: first byte of both frames. -/
def head : Byte := 0xAA
/-- R5: second byte of a command frame. -/
def cmdId : Byte := 0xB4
/-- R5: last byte of both frames. -/
def tail : Byte := 0xAB
/-- R5: command byte 15. -/
def id1 : Byte := 0xFF
/-- R5: command byte 16. -/
def id2 : Byte := 0xFF
/-- R5, R90: opcode of set report mode. -/
def opReportMode : Byte := 0x02
/-- R5, R90: opcode of query. -/
def opQuery : Byte := 0x04
/-- R5, R90: opcode of set work period. -/
def opWorkPeriod : Byte := 0x08
/-- R5: the write direction flag (0x00, read, is never emitted). -/
def dirWrite : Byte := 0x01
/-- R5: the passive mode byte (0x00, active, is never emitted). -/
def modePassive : Byte := 0x01
/-- R5: the largest work period, in minutes. -/
def maxWorkPeriod : Byte := 30
/-- R5: length of a command frame. -/
def cmdLen : Nat := 19
/-- R5: length of a reply frame. -/
def replyLen : Nat := 10
/-- R5: length of a command body (opcode, parameters, padding). -/
def bodyLen : Nat := 13
/-- R5: first index of both checksum ranges. -/
def ckFirst : Nat := 2
/-- R5: last index of the command checksum range. -/
def ckTxLast : Nat := 16
/-- R5: last index of the reply checksum range. -/
def ckRxLast : Nat := 7

end Sys2Proof.Const
end

