-- ==== Sys2Proof/Syntax.lean ====
section
/-! DEFINITION. The instructions of the block: one constructor for each row of spec/opcode_table.json, with the fields
the table gives it. -/

namespace Sys2Proof

/-- R80: a reply frame, byte by byte. Only bytes 2 to 8 are ever read by the block (R123). -/
structure ReplyFrame where
  head : Byte
  echo : Byte
  p2 : Byte
  p3 : Byte
  p4 : Byte
  p5 : Byte
  p6 : Byte
  p7 : Byte
  ck : Byte
  tail : Byte
  deriving DecidableEq, Repr

/-- The rows of spec/opcode_table.json. The three commands carry their variable operand (R73); the two replies carry
the ten bytes received, which both rows admit whatever they are (R89). -/
inductive Instr where
  /-- SET_REPORT_MODE (R105): the command frame of OPEN. -/
  | setReportMode
  /-- QUERY (R106). -/
  | query
  /-- SET_WORK_PERIOD (R107): `m` at byte 4. -/
  | setWorkPeriod (m : Byte)
  /-- REPLY_CONFIRM (R127): a reply read as a confirmation. -/
  | replyConfirm (r : ReplyFrame)
  /-- REPLY_MEASUREMENT (R128): a reply read as a measurement. -/
  | replyMeasurement (r : ReplyFrame)
  deriving DecidableEq, Repr

end Sys2Proof
end

