-- ==== Sys2Proof/WellFormed.lean ====
section
/-! DEFINITION. Which instruction terms are frames of this block. The one operand with a range is the work period. -/

namespace Sys2Proof

/-- R73: the work period is legal only for `m <= 30`; a value 31..255 is never encoded. -/
def legalPeriod (m : Byte) : Bool := decide (m ≤ Const.maxWorkPeriod)

/-- A term is well formed when it is a frame the block emits (R87) or a reply it can take (R89: any ten bytes). -/
def Instr.wf : Instr → Bool
  | .setReportMode => true
  | .query => true
  | .setWorkPeriod m => legalPeriod m
  | .replyConfirm _ => true
  | .replyMeasurement _ => true

end Sys2Proof
end

