-- ==== Sys2Proof/Decode.lean ====
section
/-! DEFINITION. Byte sequences and their checksums, the decoder (frames by the opcode table, replies by the operation
that reads them, request words by R84), total and rejecting by name, and the encoder. -/

namespace Sys2Proof

/-! ## Sequence primitives (R8, R9) -/

/-- R8: `F[i..j]`, the bytes from index `i` through index `j` inclusive. -/
def slice (F : List Byte) (i j : Nat) : List Byte := (F.drop i).take (j + 1 - i)

/-- R9: `sum8(S)`, the sum of the bytes reduced modulo 256 once at the end. -/
def sum8 (S : List Byte) : Byte := BitVec.ofNat 8 ((S.map BitVec.toNat).sum % 256)

/-- R100: the command checksum, `sum8(F[2..16])`. -/
def ckTx (F : List Byte) : Byte := sum8 (slice F Const.ckFirst Const.ckTxLast)

/-- R121: the reply checksum of a ten-byte reply, `sum8(R[2..7])`. -/
def ckRx (R : List Byte) : Byte := sum8 (slice R Const.ckFirst Const.ckRxLast)

/-! ## Replies as bytes -/

/-- R80: the ten bytes of a reply in wire order. -/
def ReplyFrame.toBytes (r : ReplyFrame) : List Byte :=
  [r.head, r.echo, r.p2, r.p3, r.p4, r.p5, r.p6, r.p7, r.ck, r.tail]

/-- R80: the payload, indices 2..7. -/
def ReplyFrame.payload (r : ReplyFrame) : List Byte := slice r.toBytes 2 7

/-- R121, R123: the verdict on a reply: its checksum is byte 8. -/
def ReplyFrame.valid (r : ReplyFrame) : Bool := decide (ckRx r.toBytes = r.ck)

/-! ## The decoder -/

/-- Why a byte sequence or a request word is no instruction of the block. -/
inductive DecodeError where
  /-- R86: neither 19 nor 10 bytes, or not the length of its direction. -/
  | badLength (n : Nat)
  /-- R87: 19 bytes that match no row of the table under its mask. -/
  | noRow
  /-- R87: byte 17 is not `sum8(F[2..16])`. -/
  | badChecksum
  /-- R73, R87: a work period of 31..255, never encoded. -/
  | illegalPeriod (m : Byte)
  /-- R84, R85: the request code 0b11. -/
  | reservedRequest
  deriving DecidableEq, Repr

/-- R89: a command row of the opcode table: `match` and `mask`, byte 0 first. -/
structure Row where
  pattern : List Byte
  mask : List Byte
  deriving DecidableEq, Repr

/-- R89: a frame matches a row iff `(F & mask) == match`, byte by byte. -/
def Row.admits (row : Row) (F : List Byte) : Bool :=
  decide (F.length = row.pattern.length) && decide (List.zipWith (· &&& ·) F row.mask = row.pattern)

/-- opcode_table.json, row SET_REPORT_MODE. -/
def rowSetReportMode : Row where
  pattern := [0xAA, 0xB4, 0x02, 0x01, 0x01, 0, 0, 0, 0, 0, 0, 0, 0, 0, 0, 0xFF, 0xFF, 0x02, 0xAB]
  mask := List.replicate 19 0xFF

/-- opcode_table.json, row QUERY. -/
def rowQuery : Row where
  pattern := [0xAA, 0xB4, 0x04, 0, 0, 0, 0, 0, 0, 0, 0, 0, 0, 0, 0, 0xFF, 0xFF, 0x02, 0xAB]
  mask := List.replicate 19 0xFF

/-- opcode_table.json, row SET_WORK_PERIOD: the mask clears `m` (byte 4) and the checksum (byte 17). -/
def rowSetWorkPeriod : Row where
  pattern := [0xAA, 0xB4, 0x08, 0x01, 0, 0, 0, 0, 0, 0, 0, 0, 0, 0, 0, 0xFF, 0xFF, 0, 0xAB]
  mask := [0xFF, 0xFF, 0xFF, 0xFF, 0, 0xFF, 0xFF, 0xFF, 0xFF, 0xFF, 0xFF, 0xFF, 0xFF, 0xFF, 0xFF, 0xFF, 0xFF, 0, 0xFF]

/-- R87: the command of the row a frame matches, its field `m` taken from byte 4. -/
def rowCommand (F : List Byte) : Option Instr :=
  if rowSetReportMode.admits F then some .setReportMode
  else if rowQuery.admits F then some .query
  else if rowSetWorkPeriod.admits F then some (.setWorkPeriod (F.getD 4 0))
  else none

/-- R87: recognising a command frame: its row under the mask, then `F[4] <= 30`, then the checksum (log entry 11). -/
def decodeCommand (F : List Byte) : Except DecodeError Instr :=
  if F.length ≠ Const.cmdLen then .error (.badLength F.length)
  else
    match rowCommand F with
    | none => .error .noRow
    | some (.setWorkPeriod m) =>
      if legalPeriod m then
        if F.getD 17 0 = ckTx F then .ok (.setWorkPeriod m) else .error .badChecksum
      else .error (.illegalPeriod m)
    | some i => if F.getD 17 0 = ckTx F then .ok i else .error .badChecksum

/-- R83, R24: a reply does not say which kind it is; the operation that reads it does. -/
def replyInstr (op : Op) (r : ReplyFrame) : Instr :=
  match op with
  | .query => .replyMeasurement r
  | .reportMode => .replyConfirm r
  | .workPeriod => .replyConfirm r

/-- R89, R83: any ten bytes are a reply, read as `op` says; no other length is. -/
def decodeReply (op : Op) : List Byte → Except DecodeError Instr
  | [b0, b1, b2, b3, b4, b5, b6, b7, b8, b9] => .ok (replyInstr op ⟨b0, b1, b2, b3, b4, b5, b6, b7, b8, b9⟩)
  | R => .error (.badLength R.length)

/-- R86: the length tells the direction, and with it the kind of frame; `op` is the operation a reply is read under. -/
def decode (op : Op) (F : List Byte) : Except DecodeError Instr :=
  if F.length = Const.cmdLen then decodeCommand F else decodeReply op F

/-- R84: the request word: 0b00 OPEN, 0b01 SET_WORK_PERIOD with `req_arg = m` (every value 0..255, R144), 0b10 QUERY,
0b11 none. `req_arg` is ignored for OPEN and QUERY. -/
def decodeRequest (w : ReqWord) : Except DecodeError Instr :=
  if w.reqOp = 0b00#2 then .ok .setReportMode
  else if w.reqOp = 0b01#2 then .ok (.setWorkPeriod w.reqArg)
  else if w.reqOp = 0b10#2 then .ok .query
  else .error .reservedRequest

/-! ## The encoder -/

/-- The bytes of a frame in wire order, written from the layouts of R70 and R71, the table's own checksum values
(`0x02` for the two constant frames, `0x07 + m` for the work period, R110) and R80. -/
def encode : Instr → List Byte
  | .setReportMode => [0xAA, 0xB4, 0x02, 0x01, 0x01, 0, 0, 0, 0, 0, 0, 0, 0, 0, 0, 0xFF, 0xFF, 0x02, 0xAB]
  | .query => [0xAA, 0xB4, 0x04, 0, 0, 0, 0, 0, 0, 0, 0, 0, 0, 0, 0, 0xFF, 0xFF, 0x02, 0xAB]
  | .setWorkPeriod m => [0xAA, 0xB4, 0x08, 0x01, m, 0, 0, 0, 0, 0, 0, 0, 0, 0, 0, 0xFF, 0xFF, 0x07 + m, 0xAB]
  | .replyConfirm r => r.toBytes
  | .replyMeasurement r => r.toBytes

/-- R84: the request word that selects a command (`req_arg` is 0 where it is ignored); a reply has none. -/
def encodeRequest : Instr → Option ReqWord
  | .setReportMode => some ⟨0b00, 0⟩
  | .setWorkPeriod m => some ⟨0b01, m⟩
  | .query => some ⟨0b10, 0⟩
  | .replyConfirm _ => none
  | .replyMeasurement _ => none

/-- The operation a command starts (R141, R144, R151), and one a reply is read under (R127, R128). -/
def Instr.op : Instr → Op
  | .setReportMode => .reportMode
  | .query => .query
  | .setWorkPeriod _ => .workPeriod
  | .replyConfirm _ => .reportMode
  | .replyMeasurement _ => .query

/-! ## The opcode table's words -/

/-- The `n` bytes of a table word, the first byte in bits 7..0 and each later byte in the eight bits above (DESIGN CHOICE,
log entry 21). -/
def bytesOfWord : Nat → Nat → List Byte
  | 0, _ => []
  | n + 1, w => BitVec.ofNat 8 (w % 256) :: bytesOfWord n (w / 256)

/-- DESIGN CHOICE (log entry 10): the operation under which a bare ten-byte table word is read. Both reply rows admit
every ten bytes (R83, R89) and a word alone cannot choose; the model reads it as a confirmation. -/
def tableReplyOp : Op := .reportMode

/-- The instruction the decoder reads from the opcode table's word of `nbits` bits. -/
def decodeTableWord (nbits w : Nat) : Option Instr :=
  match decode tableReplyOp (bytesOfWord (nbits / 8) w) with
  | .ok i => some i
  | .error _ => none

end Sys2Proof
end

