-- ==== Sys2Proof/Config.lean ====
section
/-! DEFINITION. What R6 leaves open: the value a transport failure carries, and the transport's and the host's
parameters. No byte the block emits and no verdict depends on any of them. -/

namespace Sys2Proof

/-- R6, D5: a value of the open type parameter `TErr`, "carrying a description string". The model takes that type as an
argument: every type of Machine/State.lean that holds a failure value, every operation, every meaning and `stepAt` have
it as the parameter `E`. This structure is only the value the parameter has where none is written, so that the machine
the host reads is plain comparable data (DESIGN CHOICE, log entry 6). -/
structure TErr where
  description : List Char
  deriving DecidableEq, Repr, Inhabited

/-- DESIGN CHOICE (log entry 20): how a parity setting is written down. The spec gives the reference value "no parity" and
no list of settings. -/
inductive Parity where
  | none
  | odd
  | even
  deriving DecidableEq, Repr, Inhabited

/-- DESIGN CHOICE (log entry 20): how a number of stop bits is written down. The spec gives the reference value 1. -/
inductive StopBits where
  | one
  | oneAndHalf
  | two
  deriving DecidableEq, Repr, Inhabited

/-- DESIGN CHOICE (log entry 20): how a flow control setting is written down. The spec gives the reference value "no flow
control". -/
inductive FlowControl where
  | none
  | software
  | hardware
  deriving DecidableEq, Repr, Inhabited

/-- R6: a value of `TRANSPORT_CFG`. DESIGN CHOICE (log entry 20): the spec gives only the reference value; that a setting
is these five fields, and what each can say, is the model's. -/
structure TransportCfg where
  /-- Baud. -/
  baud : Nat
  /-- Data bits a character. -/
  dataBits : Nat
  parity : Parity
  stopBits : StopBits
  flowControl : FlowControl
  deriving DecidableEq, Repr, Inhabited

namespace Config

/-- R6, D26: the line settings of the transport, a parameter the block never reads. -/
opaque transportCfg : TransportCfg

/-- R6, R203: the reference value the source quotes for `TRANSPORT_CFG`: 9600 baud, 8 data bits, no parity, 1 stop bit,
no flow control. -/
def referenceTransportCfg : TransportCfg := ⟨9600, 8, .none, .one, .none⟩

/-- R6, D21: the transport's read timeout, a parameter the transport uses and the block never reads. DESIGN CHOICE (log
entry 20): it is a rational number of seconds; the spec gives the reference value in seconds and no set of values. -/
opaque readTimeout : Rat

/-- R6, R183: the reference value of `READ_TIMEOUT`, 2 s. -/
def referenceReadTimeout : Rat := 2

/-- R6, D12: the timestamp epoch, in whole seconds of the host's clock (log entry 16). -/
opaque epoch : Int

end Config

end Sys2Proof
end

