-- ==== Sys2Proof/Machine/State.lean ====
section
/-! DEFINITION. The state of the block (R20 to R27), the environment it stands in (the host's requests, the transport's
answers and their schedule, R12), the reasons a step stops, and the state after reset (R32). -/

namespace Sys2Proof.Machine

/-! ## The block -/

/-- R20: the five values of the sequencer phase. -/
inductive Phase where
  | unopened
  | tx
  | rx
  | ready
  | failed
  deriving DecidableEq, Repr

/-- R175: the stage at which the transport failed (`opening` is the spec's OPEN). -/
inductive Stage where
  | opening
  | write
  | read
  deriving DecidableEq, Repr

/-- R171: the error kinds, with what each records. -/
inductive ErrInfo (E : Type := TErr) where
  | tooLongWorkTime
  | emptyDataFrame
  | badChecksum
  | transportError (stage : Stage) (k : E)
  deriving DecidableEq, Repr

/-- R27: the response register `RSP`, its fields at their widths. -/
structure Rsp (E : Type := TErr) where
  rspValid : Bool
  status : BitVec 3
  terrStage : BitVec 2
  terr : E
  pmValid : Bool
  pm25Raw : Raw
  pm10Raw : Raw
  deriving DecidableEq, Repr

/-- R50: a frame buffer is a storage space of bytes named by an index. It is a list of (index, byte) pairs with
indices strictly rising; an unlisted index is a byte that nothing has written since reset (R32: "a model marks each
byte unwritten") and has no value. -/
abbrev Memory := List Host.Cell

/-- R22, R23: the two frame buffers, by name. -/
inductive Buffer where
  | tx
  | rx
  deriving DecidableEq, Repr

/-! ## The environment: host and transport (R12)

The parameter `E` of a type is the type `TErr` of R6, which the model takes as an argument. -/

/-- R141: the transport's open outcome. -/
inductive OpenAnswer (E : Type := TErr) where
  | ok
  | failed (k : E)
  deriving DecidableEq, Repr

/-- R55: the answer to a `TxSend`. -/
inductive TxAnswer (E : Type := TErr) where
  | accepted
  | failed (k : E)
  deriving DecidableEq, Repr

/-- R56: the answer to an `RxRecv`. -/
inductive RxAnswer (E : Type := TErr) where
  | byte (b : Byte)
  | failed (k : E)
  deriving DecidableEq, Repr

/-- R27, R152: the fields of `RSP` the host can read. -/
inductive RspField where
  | rspValid
  | status
  | terrStage
  | terr
  | pmValid
  | pm25Raw
  | pm10Raw
  deriving DecidableEq, Repr

/-- What a host read gives, at the width of the field read. -/
inductive Reading (E : Type := TErr) where
  | flag (b : Bool)
  | status (code : BitVec 3)
  | stage (code : BitVec 2)
  | terr (k : E)
  | raw (v : Raw)
  deriving DecidableEq, Repr

/-- R140, R29: what happens next: the host's request is judged, the host reads a field of `RSP`, the transport answers
the `TxSend` or `RxRecv` the block is waiting in, or a reset. A read stands in no queue behind a request: the host may
read whether its request is still held or not (R209). -/
inductive Turn where
  | host
  | read (f : RspField)
  | transport
  | reset
  deriving DecidableEq, Repr

/-- The agents outside the block, as plain data: what they will do, oldest first, and what they have seen. None of it is
block state. The lists are arbitrary (R57: the draws are not constrained); the end of a list is an agent that does not
act, or an answer that does not come (R62). Log entries 2, 3 and 8 (DESIGN CHOICE). -/
structure Env (E : Type := TErr) where
  /-- R140: whose turn each step is. -/
  schedule : List Turn
  /-- R84, R145: the host's requests, the one at the head being the one offered. -/
  host : List ReqWord
  /-- R141: the open outcomes to come. -/
  openAns : List (OpenAnswer E)
  /-- R55: the answers to come to `TxSend`. -/
  txAns : List (TxAnswer E)
  /-- R56, R30: the answers to come to `RxRecv`; bytes the block does not take stay here. -/
  rxAns : List (RxAnswer E)
  /-- R150: the bytes the transport has accepted, oldest first. -/
  sent : List Byte
  /-- What the host has read from `RSP`, oldest first. -/
  readings : List (RspField × Reading E)
  deriving DecidableEq, Repr

/-! ## State -/

/-- The whole state. The parameter is the type of a transport failure's value, an argument of the model (R6, R33). -/
structure State (E : Type := TErr) where
  /-- R20 -/
  phase : Phase
  /-- R24 -/
  op : Op
  /-- R25 -/
  init : Bool
  /-- R22: the command buffer `TX[0..18]`. -/
  tx : Memory
  /-- R22: command bytes accepted, 0..19. -/
  txidx : Nat
  /-- R23: the reply buffer `RX[0..9]`. -/
  rx : Memory
  /-- R23: reply bytes received, 0..10. -/
  rxcnt : Nat
  /-- R27 -/
  rsp : Rsp E
  /-- R12 -/
  env : Env E
  deriving DecidableEq, Repr

/-- Why a run stops with a fault. -/
inductive Fault where
  /-- R152, U15: the host read a field of `RSP` that carries no meaning now ("a fault of the host program"). Raised by
  a host read. Safe: the spec asks for this fault. -/
  | hostRead (f : RspField)
  /-- U9: the host read a status code 5, 6 or 7, which no rule writes. Raised by a host read, in no state a run reaches.
  Safe: the spec asks for this fault. -/
  | reservedStatus (code : BitVec 3)
  /-- R32: a frame buffer byte read before anything wrote it. Raised by the TX step and by the step that reads a whole
  reply, in no state a run reaches (R32: the block's own rules never read one). Safe: the spec asks for this fault. -/
  | unwrittenByte (buf : Buffer) (i : Nat)
  /-- R50: a frame buffer index outside 0..18 (TX) or 0..9 (RX), which names no byte. Raised by the TX and RX steps, in
  no state a run reaches (log entry 19). Safe: there is no such byte. -/
  | noSuchByte (buf : Buffer) (i : Nat)
  deriving DecidableEq, Repr

/-- Why a run is marked refused. -/
inductive Refusal where
  /-- An instruction without a meaning yet. Raised by exec's refused arms only (this model has none). Safe. -/
  | notModelled (mnemonic : String)
  /-- R84, R85, R143: the request code 0b11, refused in every phase. Raised when the host offers it. Safe: the spec
  asks for the run to be marked refused. -/
  | reservedRequest
  /-- R143, R145: a request its phase refuses ("never accepted: the block takes no step on it and writes no
  response"). Raised by the three commands. Safe: the spec asks for the run to be marked refused (log entry 7). -/
  | wrongPhase (p : Phase)
  deriving DecidableEq, Repr

/-! ## Reset -/

/-- R32: `RSP` after reset. `rspValid` and `pmValid` are 0 as the spec says; the other fields are unspecified there and
hold the values of log entry 1 (DESIGN CHOICE), which no host read can see before they are written (R152). -/
def Rsp.reset {E : Type} [Inhabited E] : Rsp E where
  rspValid := false
  status := 0
  terrStage := 0
  terr := default
  pmValid := false
  pm25Raw := 0
  pm10Raw := 0

/-- An environment in which nobody acts. -/
def Env.quiet {E : Type} : Env E where
  schedule := []
  host := []
  openAns := []
  txAns := []
  rxAns := []
  sent := []
  readings := []

/-- R32, R200: the state after reset, in an environment where nobody has acted yet. `op` is unspecified there and holds
the value of log entry 1 (DESIGN CHOICE); no byte of `TX` or `RX` is written. -/
def State.resetAt (E : Type) [Inhabited E] : State E where
  phase := .unopened
  op := .reportMode
  init := false
  tx := []
  txidx := 0
  rx := []
  rxcnt := 0
  rsp := .reset
  env := .quiet

/-- R32, R200: the state after reset of the machine the host reads. -/
def State.reset : State := State.resetAt TErr

end Sys2Proof.Machine
end

