-- ==== Sys2Proof/Machine/Flags.lean ====
section
/-! DEFINITION. The codes of `RSP` (R171, R175), its packed layout (R27), and the validator's verdict (R124): everything
the block computes a response field from. -/

namespace Sys2Proof.Machine

/-- R171: status code of success. -/
def statusOk : BitVec 3 := 0
/-- R171: status code of TOO_LONG_WORK_TIME. -/
def statusTooLongWorkTime : BitVec 3 := 1
/-- R171, R173: status code of EMPTY_DATA_FRAME, which no step writes. -/
def statusEmptyDataFrame : BitVec 3 := 2
/-- R171: status code of BAD_CHECKSUM. -/
def statusBadChecksum : BitVec 3 := 3
/-- R171: status code of TRANSPORT_ERROR. -/
def statusTransportError : BitVec 3 := 4

/-- R171: the code of an error kind. -/
def ErrInfo.code {E : Type} : ErrInfo E → BitVec 3
  | .tooLongWorkTime => statusTooLongWorkTime
  | .emptyDataFrame => statusEmptyDataFrame
  | .badChecksum => statusBadChecksum
  | .transportError _ _ => statusTransportError

/-- R27, R175: the code of a transport stage; 3 is never written. -/
def Stage.code : Stage → BitVec 2
  | .opening => 0
  | .write => 1
  | .read => 2

/-- R171: the codes 5, 6 and 7 are reserved. -/
def reservedCode (c : BitVec 3) : Bool := decide (statusTransportError < c)

/-- R124: the validator: the payload is empty (never, R122), or its sum is not byte 8, or the reply is valid. The order
is the spec's. -/
def validate {E : Type} (r : ReplyFrame) : Except (ErrInfo E) ReplyFrame :=
  if r.payload.length = 0 then .error .emptyDataFrame
  else if sum8 r.payload ≠ r.ck then .error .badChecksum
  else .ok r

/-- R27: one bit of the packed word. -/
def bitOf (b : Bool) : BitVec 1 := BitVec.ofBool b

/-- R27: the packed view: `[2:0]` status, `[4:3]` terr_stage, `[5]` pm_valid, `[6]` rsp_valid, `[7]` 0,
`[23:8]` pm25_raw, `[39:24]` pm10_raw. -/
def Rsp.packed {E : Type} (r : Rsp E) : BitVec 40 :=
  r.pm10Raw ++ r.pm25Raw ++ (0 : BitVec 1) ++ bitOf r.rspValid ++ bitOf r.pmValid ++ r.terrStage ++ r.status

/-- R28, R32, R152: which bits of the packed view carry meaning now: bit 6 and the reserved bit 7 always, status and
pm_valid with a response, the stage with a transport error, the PM fields with a measurement (DEDUCED, log entry 12). -/
def Rsp.meaningful {E : Type} (r : Rsp E) : BitVec 40 :=
  let pm : BitVec 16 := if r.rspValid && r.pmValid then 0xFFFF else 0
  let stage : BitVec 2 := if r.rspValid && decide (r.status = statusTransportError) then 3 else 0
  let st : BitVec 3 := if r.rspValid then 7 else 0
  pm ++ pm ++ (1 : BitVec 1) ++ (1 : BitVec 1) ++ bitOf r.rspValid ++ stage ++ st

end Sys2Proof.Machine
end

