-- ==== Sys2Proof/Machine/Operands.lean ====
section
/-! DEFINITION. How the operands of a command frame are assembled (R71 to R73), how a reply's 16-bit fields are (R53,
R81), and the frame builder of R103 to R107. -/

namespace Sys2Proof.Machine

/-- R9, R53: `le16(lo, hi) = zext_16(hi) << 8 | zext_16(lo)`. -/
def le16 (lo hi : Byte) : Raw := (hi.setWidth 16 <<< 8) ||| lo.setWidth 16

/-- R81, R128: PM2.5 raw is bytes 2 and 3 of the reply, low byte first. -/
def pm25Of (r : ReplyFrame) : Raw := le16 r.p2 r.p3

/-- R81, R128: PM10 raw is bytes 4 and 5 of the reply, low byte first. -/
def pm10Of (r : ReplyFrame) : Raw := le16 r.p4 r.p5

/-- R71: the zero padding of a body. -/
def padding (n : Nat) : List Byte := List.replicate n 0x00

/-- R71, R105: the body of set report mode (passive, write). -/
def bodyReportMode : List Byte := [Const.opReportMode, Const.dirWrite, Const.modePassive] ++ padding 10

/-- R71, R106: the body of query. -/
def bodyQuery : List Byte := [Const.opQuery] ++ padding 12

/-- R71, R73, R107: the body of set work period, `m` unchanged at frame index 4. -/
def bodyWorkPeriod (m : Byte) : List Byte := [Const.opWorkPeriod, Const.dirWrite, m] ++ padding 10

/-- R103: BUILD_FRAME on a 13-byte body: header, body, ID bytes, then the checksum over indices 2..16, then the tail. -/
def build (B : List Byte) : List Byte :=
  let F := [Const.head, Const.cmdId] ++ B ++ [Const.id1, Const.id2]
  F ++ [ckTx F] ++ [Const.tail]

/-- R105. -/
def frameReportMode : List Byte := build bodyReportMode
/-- R106. -/
def frameQuery : List Byte := build bodyQuery
/-- R107. -/
def frameWorkPeriod (m : Byte) : List Byte := build (bodyWorkPeriod m)

end Sys2Proof.Machine
end

