-- ==== Sys2Proof/Machine/Ops.lean ====
section
/-! DEFINITION. The shared operations: the frame buffers, accepting a request, starting a transaction, raising an error
(the one operation that takes an exception, R170), and ending a transaction well. -/

namespace Sys2Proof.Machine

variable {E : Type}

/-! ## The frame buffers (R22, R23, R50) -/

/-- R50: how many bytes a buffer has. -/
def Buffer.size : Buffer → Nat
  | .tx => Const.cmdLen
  | .rx => Const.replyLen

/-- The byte at an index, if one is written. -/
def Memory.lookup : Memory → Nat → Option Byte
  | [], _ => none
  | (a, v) :: rest, i => if a = i then some v else Memory.lookup rest i

/-- The indices rise strictly from `lo` on and stay below `size`. -/
def Memory.risesFrom (size lo : Nat) : Memory → Bool
  | [] => true
  | (a, _) :: rest => decide (lo ≤ a) && decide (a < size) && Memory.risesFrom size (a + 1) rest

/-- The canonical form of a buffer of `size` bytes. No listed byte equals what an unlisted index reads as, since that
has no value. -/
def Memory.wf (size : Nat) (m : Memory) : Bool := Memory.risesFrom size 0 m

/-- Writes one byte, keeping the indices in rising order. -/
def Memory.write : Memory → Nat → Byte → Memory
  | [], i, b => [(i, b)]
  | (a, v) :: rest, i, b =>
    if i < a then (i, b) :: (a, v) :: rest
    else if i = a then (i, b) :: rest
    else (a, v) :: Memory.write rest i b

/-- The bytes of `F` at the indices from `i` on. -/
def Memory.ofBytesFrom : Nat → List Byte → Memory
  | _, [] => []
  | i, b :: rest => (i, b) :: Memory.ofBytesFrom (i + 1) rest

/-- R104: a buffer written whole, byte `i` of `F` at index `i`. -/
def Memory.ofBytes (F : List Byte) : Memory := Memory.ofBytesFrom 0 F

/-- The buffer a name stands for. -/
def State.buffer (s : State E) : Buffer → Memory
  | .tx => s.tx
  | .rx => s.rx

/-- R32, R50: reading one byte of a buffer: an index outside it names no byte, and a byte nothing has written since
reset has no value; both are faults. -/
def readByte (buf : Buffer) (i : Nat) (s : State E) : Except Fault Byte :=
  if i < buf.size then
    match (s.buffer buf).lookup i with
    | some b => .ok b
    | none => .error (.unwrittenByte buf i)
  else .error (.noSuchByte buf i)

/-- R124: the reply in `RX[0..9]`. -/
def readReply (s : State E) : Except Fault ReplyFrame := do
  let b0 ← readByte .rx 0 s
  let b1 ← readByte .rx 1 s
  let b2 ← readByte .rx 2 s
  let b3 ← readByte .rx 3 s
  let b4 ← readByte .rx 4 s
  let b5 ← readByte .rx 5 s
  let b6 ← readByte .rx 6 s
  let b7 ← readByte .rx 7 s
  let b8 ← readByte .rx 8 s
  let b9 ← readByte .rx 9 s
  pure ⟨b0, b1, b2, b3, b4, b5, b6, b7, b8, b9⟩

/-! ## Requests (R143) -/

/-- R20: `TX` and `RX` are the busy phases. -/
def Phase.busy : Phase → Bool
  | .tx => true
  | .rx => true
  | .unopened => false
  | .ready => false
  | .failed => false

/-- R143: accepting the request at the head of the host's requests takes it from the port and clears `rsp_valid`. -/
def accept (s : State E) : State E :=
  { s with
    rsp := { s.rsp with rspValid := false }
    env := { s.env with host := s.env.host.tail } }

/-- R104: the frame written whole into `TX`, `txidx` 0, and the block in phase `TX`. -/
def startFrame (F : List Byte) (s : State E) : State E :=
  { s with tx := Memory.ofBytes F, txidx := 0, phase := .tx }

/-! ## Raising an error (R170) and ending well (R127, R128) -/

/-- R142, R149, R178: where a transaction that ends with an error leaves the block. -/
def phaseAfterError (init : Bool) : Phase := if init then .failed else .ready

/-- R170: the response fields an error writes: the stage and value for a transport error only, and `status`,
`pm_valid`, `rsp_valid`; `pm25_raw` and `pm10_raw` are left. -/
def Rsp.ofError (e : ErrInfo E) (r : Rsp E) : Rsp E :=
  match e with
  | .transportError stage k =>
    { r with status := e.code, pmValid := false, terrStage := stage.code, terr := k, rspValid := true }
  | .tooLongWorkTime => { r with status := e.code, pmValid := false, rspValid := true }
  | .emptyDataFrame => { r with status := e.code, pmValid := false, rspValid := true }
  | .badChecksum => { r with status := e.code, pmValid := false, rspValid := true }

/-- R170: `raise E(info)`, the one way the block takes an exception. There is no handler, no saved context and no return
instruction (R180): the host's return is to read the response and offer its next request. -/
def raise (e : ErrInfo E) (s : State E) : State E :=
  { s with rsp := s.rsp.ofError e, phase := phaseAfterError s.init, init := false }

/-- R127: a confirmation: `status` OK, `pm_valid` 0, `rsp_valid` 1, and the transaction ends in `READY` (R142, R149). -/
def respondConfirm (s : State E) : State E :=
  { s with
    rsp := { s.rsp with status := statusOk, pmValid := false, rspValid := true }
    phase := .ready
    init := false }

/-- R128: a measurement: both raw fields, `status` OK, `pm_valid` 1, `rsp_valid` 1, and the transaction ends in `READY`
(R149; for a construction R142). -/
def respondMeasurement (pm25 pm10 : Raw) (s : State E) : State E :=
  { s with
    rsp := { s.rsp with status := statusOk, pmValid := true, rspValid := true, pm25Raw := pm25, pm10Raw := pm10 }
    phase := .ready
    init := false }

end Sys2Proof.Machine
end

