-- ==== Sys2Proof/Machine/Commands.lean ====
section
/-! DEFINITION. The meanings of the three command rows: the step that accepts the request (R141, R144, R151), held in the
busy phases and refused where R143 refuses it. The state given has the request at the head of the host's requests. -/

namespace Sys2Proof.Machine

variable {E : Type}

/-- R141: OPEN accepted and its open outcome taken, with `op` and `init` written. -/
def beginConstruction (rest : List (OpenAnswer E)) (s : State E) : State E :=
  { accept s with op := .reportMode, init := true, env := { (accept s).env with openAns := rest } }

/-- R144, R151: a request of the constructed block accepted, with `op` and `init` written. -/
def beginOrdinary (op : Op) (s : State E) : State E := { accept s with op := op, init := false }

/-- SET_REPORT_MODE, the command of OPEN (R141): accepted in `UNOPENED`. It takes the transport's open outcome in the same
step; while the transport has not given one, the block waits and the request stays offered (log entry 5). `op` and
`init` are written before the open check (conflict C7), so a failed open ends in `FAILED`. -/
def execSetReportMode (s : State E) : Host.Outcome (State E) Fault Refusal :=
  match s.phase with
  | .unopened =>
    match s.env.openAns with
    | [] => .next s
    | .failed k :: rest => .next (raise (.transportError .opening k) (beginConstruction rest s))
    | .ok :: rest => .next (startFrame frameReportMode (beginConstruction rest s))
  | .tx => .next s
  | .rx => .next s
  | .ready => .refused (.wrongPhase .ready)
  | .failed => .refused (.wrongPhase .failed)

/-- SET_WORK_PERIOD(m) (R144): accepted in `READY`; `m > 30` raises TOO_LONG_WORK_TIME in the accepting step, with no
transport event, and any other `m` starts the transaction. -/
def execSetWorkPeriod (m : Byte) (s : State E) : Host.Outcome (State E) Fault Refusal :=
  match s.phase with
  | .ready =>
    if legalPeriod m then .next (startFrame (frameWorkPeriod m) (beginOrdinary .workPeriod s))
    else .next (raise .tooLongWorkTime (accept s))
  | .tx => .next s
  | .rx => .next s
  | .unopened => .refused (.wrongPhase .unopened)
  | .failed => .refused (.wrongPhase .failed)

/-- QUERY (R151): accepted in `READY`. -/
def execQuery (s : State E) : Host.Outcome (State E) Fault Refusal :=
  match s.phase with
  | .ready => .next (startFrame frameQuery (beginOrdinary .query s))
  | .tx => .next s
  | .rx => .next s
  | .unopened => .refused (.wrongPhase .unopened)
  | .failed => .refused (.wrongPhase .failed)

end Sys2Proof.Machine
end

