-- ==== Sys2Proof/Machine/Replies.lean ====
section
/-! DEFINITION. The meanings of the two reply rows: the filled reply buffer is validated (R124) and interpreted (R127,
R128) in the step that stores its tenth byte. The state given has that byte stored already; no step executes them elsewhere
(log entry 13). -/

namespace Sys2Proof.Machine

variable {E : Type}

/-- REPLY_CONFIRM (R124, R127): a valid reply confirms and its payload is discarded; an invalid one raises. -/
def execReplyConfirm (r : ReplyFrame) (s : State E) : Host.Outcome (State E) Fault Refusal :=
  match validate r with
  | .error e => .next (raise e s)
  | .ok _ => .next (respondConfirm s)

/-- REPLY_MEASUREMENT (R124, R128): a valid reply is decoded, low byte first; an invalid one raises. -/
def execReplyMeasurement (r : ReplyFrame) (s : State E) : Host.Outcome (State E) Fault Refusal :=
  match validate r with
  | .error e => .next (raise e s)
  | .ok r => .next (respondMeasurement (pm25Of r) (pm10Of r) s)

end Sys2Proof.Machine
end

