-- ==== Sys2Proof/Machine/Dispatch.lean ====
section
/-! DEFINITION. One arm per row of the opcode table. -/

namespace Sys2Proof.Machine

def exec (i : Instr) (s : State) : Host.Outcome State Fault Refusal :=
  match i with
  | .setReportMode => Sys2Proof.Machine.execSetReportMode s
  | .query => Sys2Proof.Machine.execQuery s
  | .setWorkPeriod m => Sys2Proof.Machine.execSetWorkPeriod m s
  | .replyConfirm r => Sys2Proof.Machine.execReplyConfirm r s
  | .replyMeasurement r => Sys2Proof.Machine.execReplyMeasurement r s

end Sys2Proof.Machine
end

