-- ==== Sys2Proof/Machine/HostSide.lean ====
section
/-! DEFINITION. The host's side of the block: reading `RSP` (R152) and forming the source's Message (R129, R153). -/

namespace Sys2Proof.Machine

/-- R152: a read of one field of `RSP`. `rsp_valid` is always readable (R181; log entry 4); every other field only when
`rsp_valid = 1`, the PM fields only when also `pm_valid = 1`, the transport fields only when `status` is TRANSPORT_ERROR.
Any other read is a fault of the host program, and so is reading a reserved status (U9). -/
def hostRead {E : Type} (f : RspField) (s : State E) : Except Fault (Reading E) :=
  if f = .rspValid then .ok (.flag s.rsp.rspValid)
  else if s.rsp.rspValid then
    match f with
    | .rspValid => .ok (.flag s.rsp.rspValid)
    | .status => if reservedCode s.rsp.status then .error (.reservedStatus s.rsp.status) else .ok (.status s.rsp.status)
    | .pmValid => .ok (.flag s.rsp.pmValid)
    | .terrStage => if s.rsp.status = statusTransportError then .ok (.stage s.rsp.terrStage) else .error (.hostRead f)
    | .terr => if s.rsp.status = statusTransportError then .ok (.terr s.rsp.terr) else .error (.hostRead f)
    | .pm25Raw => if s.rsp.pmValid then .ok (.raw s.rsp.pm25Raw) else .error (.hostRead f)
    | .pm10Raw => if s.rsp.pmValid then .ok (.raw s.rsp.pm10Raw) else .error (.hostRead f)
  else .error (.hostRead f)

/-- R129: the concentration a raw value stands for, exactly `raw / 10` micrograms per cubic metre. -/
def concentration (raw : Raw) : Rat := (raw.toNat : Rat) / 10

/-- R153: the source's Message: two concentrations in the host's float format `F` and the timestamp as a decimal
string. -/
structure Message (F : Type) where
  pm25 : F
  pm10 : F
  timestamp : String

/-- R153: the whole seconds since the epoch, as a decimal string. -/
def timestamp (epoch now : Int) : String := toString (now - epoch)

/-- R153: the Message the host forms from a successful QUERY response; `pmFloat` is the host's format `PM_FLOAT` with its
rounding, `epoch` and `now` the epoch and the reading of the host's clock (R6: all three are arguments; log entry
16). -/
def formMessage {E F : Type} (pmFloat : Rat → F) (epoch now : Int) (s : State E) : Except Fault (Message F) :=
  match hostRead .pm25Raw s, hostRead .pm10Raw s with
  | .ok (.raw a), .ok (.raw b) => .ok ⟨pmFloat (concentration a), pmFloat (concentration b), timestamp epoch now⟩
  | .error f, _ => .error f
  | _, .error f => .error f
  | _, _ => .error (.hostRead .pm25Raw)

end Sys2Proof.Machine
end

