-- ==== Sys2Proof/Machine/Sequencer.lean ====
section
/-! DEFINITION. What one turn of the schedule does before an instruction is executed: judging the offered request (R143,
R145), the TX step (R146, R147), the RX step (R148, R120), the host's reads and reset (R200). Machine/Step.lean executes
the instruction a turn gives. -/

namespace Sys2Proof.Machine

variable {E : Type}

/-- What a turn comes to: an instruction to execute on a state, or the step's answer itself. -/
inductive Fetched (E : Type := TErr) where
  | run (i : Instr) (s : State E)
  | answer (o : Host.Outcome (State E) Fault Refusal)

/-! ## The host's turns -/

/-- What the host read is noted; the block and the offered request are unchanged. -/
def noteReading (f : RspField) (v : Reading E) (s : State E) : State E :=
  { s with env := { s.env with readings := s.env.readings ++ [(f, v)] } }

/-- R143, R145: an offered request word selects an instruction, which is judged in its meaning by the phase; the code
0b11 selects none and is refused in every phase. -/
def judge (w : ReqWord) (s : State E) : Fetched E :=
  match decodeRequest w with
  | .ok i => .run i s
  | .error _ => .answer (.refused .reservedRequest)

/-- R143: the offered request, if there is one, is judged (log entry 8). -/
def hostTurn (s : State E) : Fetched E :=
  match s.env.host with
  | [] => .answer (.next s)
  | w :: _ => judge w s

/-- R152, R209: the host reads a field of `RSP`, whether or not it offers a request: a field that carries no meaning is a
fault of the host program. -/
def readTurn (f : RspField) (s : State E) : Host.Outcome (State E) Fault Refusal :=
  match hostRead f s with
  | .ok v => .next (noteReading f v s)
  | .error e => .fault e

/-! ## The transport's turn -/

/-- R55, R140: the answer to the `TxSend` is taken; `rest` are the answers still to come. -/
def takeTxAnswer (rest : List (TxAnswer E)) (s : State E) : State E := { s with env := { s.env with txAns := rest } }

/-- R56, R60, R140: the answer to the `RxRecv` is taken; a byte taken cannot be read again. -/
def takeRxAnswer (rest : List (RxAnswer E)) (s : State E) : State E := { s with env := { s.env with rxAns := rest } }

/-- R146: the transport accepted the offered byte: it is delivered, `txidx` rises, and the 19th byte leaves `TX` for
`RX` with `rxcnt` 0. -/
def txAccepted (b : Byte) (s : State E) : State E :=
  if s.txidx + 1 = Const.cmdLen then
    { s with txidx := s.txidx + 1, phase := .rx, rxcnt := 0, env := { s.env with sent := s.env.sent ++ [b] } }
  else { s with txidx := s.txidx + 1, env := { s.env with sent := s.env.sent ++ [b] } }

/-- R146, R147: in phase `TX` the block offers `TX[txidx]`; the step is the transport's answer, and without one the block
waits (R208). -/
def txTurn (s : State E) : Host.Outcome (State E) Fault Refusal :=
  match readByte .tx s.txidx s with
  | .error e => .fault e
  | .ok b =>
    match s.env.txAns with
    | [] => .next s
    | .accepted :: rest => .next (txAccepted b (takeTxAnswer rest s))
    | .failed k :: rest => .next (raise (.transportError .write k) (takeTxAnswer rest s))

/-- R120: the received byte stored at `RX[rxcnt]`, and `rxcnt` one higher. -/
def storeReplyByte (b : Byte) (s : State E) : State E :=
  { s with rx := s.rx.write s.rxcnt b, rxcnt := s.rxcnt + 1 }

/-- R120, R124: the filled reply buffer as an instruction, read under `op`. -/
def fetchReply (s : State E) : Fetched E :=
  match readReply s with
  | .error e => .answer (.fault e)
  | .ok r => .run (replyInstr s.op r) s

/-- R120: CAPTURE: the byte is stored, and at the tenth the reply is validated and interpreted in the same step. -/
def capture (b : Byte) (s : State E) : Fetched E :=
  if s.rxcnt < Const.replyLen then
    if s.rxcnt + 1 = Const.replyLen then fetchReply (storeReplyByte b s)
    else .answer (.next (storeReplyByte b s))
  else .answer (.fault (.noSuchByte .rx s.rxcnt))

/-- R148: in phase `RX` the step is the transport's answer to `RxRecv`. -/
def rxTurn (s : State E) : Fetched E :=
  match s.env.rxAns with
  | [] => .answer (.next s)
  | .byte b :: rest => capture b (takeRxAnswer rest s)
  | .failed k :: rest =>
    .answer (.next (raise (.transportError .read k) (takeRxAnswer rest s)))

/-- R140: the block calls `TxSend` only in `TX` and `RxRecv` only in `RX`; elsewhere the transport has nothing to
answer. -/
def transportTurn (s : State E) : Fetched E :=
  match s.phase with
  | .tx => .answer (txTurn s)
  | .rx => rxTurn s
  | .unopened => .answer (.next s)
  | .ready => .answer (.next s)
  | .failed => .answer (.next s)

/-! ## Reset and the turn -/

/-- R200, R201: every piece of block state at its reset value; the transport and the host are not touched (log entry
18). -/
def resetBlock [Inhabited E] (s : State E) : State E := { State.resetAt E with env := s.env }

/-- The state with the turn that moves taken from the schedule. -/
def takeTurn (s : State E) : State E := { s with env := { s.env with schedule := s.env.schedule.tail } }

/-- R140: the turn at the head of the schedule moves; with none, no event happens and the block does not move (log entry
2). -/
def fetch [Inhabited E] (s : State E) : Fetched E :=
  match s.env.schedule with
  | [] => .answer (.next s)
  | .reset :: _ => .answer (.next (resetBlock (takeTurn s)))
  | .host :: _ => hostTurn (takeTurn s)
  | .read f :: _ => .answer (readTurn f (takeTurn s))
  | .transport :: _ => transportTurn (takeTurn s)

/-! ## Placing a table word -/

/-- The request `w` offered next, in the phase `p`, with the host's turn next. -/
def placeRequest (w : ReqWord) (p : Phase) (s : State E) : State E :=
  { s with
    phase := p
    env := { s.env with schedule := .host :: s.env.schedule, host := w :: s.env.host } }

/-- A reply whose first nine bytes are received under `op` and whose tenth is the transport's next answer. -/
def placeReply (op : Op) (r : ReplyFrame) (s : State E) : State E :=
  { s with
    phase := .rx
    op := op
    rx := Memory.ofBytes (r.toBytes.take 9)
    rxcnt := 9
    env := { s.env with schedule := .transport :: s.env.schedule, rxAns := .byte r.tail :: s.env.rxAns } }

/-- Everything one instruction of the table needs so that the very next step runs it (log entry 9). -/
def placeInstr (i : Instr) (s : State E) : State E :=
  match i with
  | .setReportMode =>
    { placeRequest ⟨0b00, 0⟩ .unopened s with
      env := { (placeRequest ⟨0b00, 0⟩ .unopened s).env with openAns := .ok :: s.env.openAns } }
  | .query => placeRequest ⟨0b10, 0⟩ .ready s
  | .setWorkPeriod m => placeRequest ⟨0b01, m⟩ .ready s
  | .replyConfirm r => placeReply .reportMode r s
  | .replyMeasurement r => placeReply .query r s

/-- The table word's instruction placed; a word the decoder rejects is placed as the request code that selects nothing,
which the next step refuses. -/
def placeWord (nbits w : Nat) (s : State E) : State E :=
  match decodeTableWord nbits w with
  | some i => placeInstr i s
  | none => placeRequest ⟨0b11, 0⟩ s.phase s

end Sys2Proof.Machine
end

