-- ==== Sys2Proof/Machine/Step.lean ====
section
/-! DEFINITION. One step of the machine (R140): the turn at the head of the schedule, and the instruction it gives. -/

namespace Sys2Proof.Machine

/-- R140: one event, one step. -/
def step (s : State) : Host.Outcome State Fault Refusal :=
  match fetch s with
  | .run i t => exec i t
  | .answer o => o

/-- `s` with the instruction of a table word placed where the next step runs it. -/
def State.withFetchWord (s : State) (nbits w : Nat) : State := placeWord nbits w s

end Sys2Proof.Machine
end

