-- ==== Sys2Proof/Machine/Parametric.lean ====
section
/-! DEFINITION. The machine with the type `TErr` of R6 as its argument. The machine the host reads is this one at the type
of Config.lean: Laws/Parametric.lean proves `exec` and `step` equal to `execAt` and `stepAt` there. -/

namespace Sys2Proof.Machine

variable {E E' : Type}

/-- The meanings of Machine/Dispatch.lean, one arm per row, over any type of failure values. -/
def execAt (i : Instr) (s : State E) : Host.Outcome (State E) Fault Refusal :=
  match i with
  | .setReportMode => execSetReportMode s
  | .query => execQuery s
  | .setWorkPeriod m => execSetWorkPeriod m s
  | .replyConfirm r => execReplyConfirm r s
  | .replyMeasurement r => execReplyMeasurement r s

/-- R140: one step, over any type of failure values. The type's default value stands in `terr` after a reset (log entry
1). -/
def stepAt [Inhabited E] (s : State E) : Host.Outcome (State E) Fault Refusal :=
  match fetch s with
  | .run i t => execAt i t
  | .answer o => o

/-! ## Renaming failure values -/

/-- Another value in the place of each failure value. -/
def OpenAnswer.mapTErr (f : E → E') : OpenAnswer E → OpenAnswer E'
  | .ok => .ok
  | .failed k => .failed (f k)

/-- Another value in the place of each failure value. -/
def TxAnswer.mapTErr (f : E → E') : TxAnswer E → TxAnswer E'
  | .accepted => .accepted
  | .failed k => .failed (f k)

/-- Another value in the place of each failure value. -/
def RxAnswer.mapTErr (f : E → E') : RxAnswer E → RxAnswer E'
  | .byte b => .byte b
  | .failed k => .failed (f k)

/-- Another value in the place of each failure value. -/
def Reading.mapTErr (f : E → E') : Reading E → Reading E'
  | .flag b => .flag b
  | .status c => .status c
  | .stage c => .stage c
  | .terr k => .terr (f k)
  | .raw v => .raw v

/-- Another value in the place of each failure value. -/
def Rsp.mapTErr (f : E → E') (r : Rsp E) : Rsp E' where
  rspValid := r.rspValid
  status := r.status
  terrStage := r.terrStage
  terr := f r.terr
  pmValid := r.pmValid
  pm25Raw := r.pm25Raw
  pm10Raw := r.pm10Raw

/-- Another value in the place of each failure value. -/
def Env.mapTErr (f : E → E') (e : Env E) : Env E' where
  schedule := e.schedule
  host := e.host
  openAns := e.openAns.map (OpenAnswer.mapTErr f)
  txAns := e.txAns.map (TxAnswer.mapTErr f)
  rxAns := e.rxAns.map (RxAnswer.mapTErr f)
  sent := e.sent
  readings := e.readings.map fun r => (r.1, r.2.mapTErr f)

/-- A state with another value in the place of each failure value. -/
def State.mapTErr (f : E → E') (s : State E) : State E' where
  phase := s.phase
  op := s.op
  init := s.init
  tx := s.tx
  txidx := s.txidx
  rx := s.rx
  rxcnt := s.rxcnt
  rsp := s.rsp.mapTErr f
  env := s.env.mapTErr f

/-- An outcome with another value in the place of each failure value; a fault or a refusal carries none. -/
def mapOutcome (f : E → E') : Host.Outcome (State E) Fault Refusal → Host.Outcome (State E') Fault Refusal
  | .next s => .next (s.mapTErr f)
  | .fault e => .fault e
  | .refused r => .refused r

end Sys2Proof.Machine
end

