-- ==== Sys2Proof/Machine/Transact.lean ====
section
/-! DEFINITION. The transaction-level functions the byte-level steps must agree with: `parse` (R130) and `transact`
(R150), and the response register read back as the typed result it stands for. -/

namespace Sys2Proof.Machine

/-- R130, R150: the result of a request. -/
inductive Result (E : Type := TErr) where
  | confirm
  | measurement (pm25 pm10 : Raw)
  | error (e : ErrInfo E)
  deriving DecidableEq, Repr

/-- R130: a reply under the operation that reads it. -/
def parse {E : Type} (op : Op) (r : ReplyFrame) : Result E :=
  if sum8 (slice r.toBytes 2 7) ≠ r.ck then .error .badChecksum
  else
    match op with
    | .query => .measurement (le16 r.p2 r.p3) (le16 r.p4 r.p5)
    | .reportMode => .confirm
    | .workPeriod => .confirm

/-- R150, first loop: the bytes of a frame the transport accepts, and its failure if it fails; none while an answer is
missing (R62). -/
def sendFrame {E : Type} : List Byte → List (TxAnswer E) → Option (List Byte × Option E)
  | [], _ => some ([], none)
  | _ :: _, [] => none
  | _ :: _, .failed k :: _ => some ([], some k)
  | b :: F, .accepted :: ta => (sendFrame F ta).map fun (sent, k) => (b :: sent, k)

/-- R150, second loop: the next `n` reply bytes, or the transport's failure; none while an answer is missing. -/
def receive {E : Type} : Nat → List (RxAnswer E) → Option (Except E (List Byte))
  | 0, _ => some (.ok [])
  | _ + 1, [] => none
  | _ + 1, .failed k :: _ => some (.error k)
  | n + 1, .byte b :: ra => (receive n ra).map fun got => got.map (b :: ·)

/-- R130 on ten received bytes. -/
def parseBytes {E : Type} (op : Op) : List Byte → Option (Result E)
  | [b0, b1, b2, b3, b4, b5, b6, b7, b8, b9] => some (parse op ⟨b0, b1, b2, b3, b4, b5, b6, b7, b8, b9⟩)
  | _ => none

/-- R150, both loops and the parse: the bytes sent and the result. -/
def exchange {E : Type} (F : List Byte) (op : Op) (ta : List (TxAnswer E)) (ra : List (RxAnswer E)) :
    Option (List Byte × Result E) :=
  match sendFrame F ta with
  | none => none
  | some (sent, some k) => some (sent, .error (.transportError .write k))
  | some (sent, none) =>
    match receive Const.replyLen ra with
    | none => none
    | some (.error k) => some (sent, .error (.transportError .read k))
    | some (.ok bytes) => (parseBytes op bytes).map fun res => (sent, res)

/-- R150: `transact(req, o, ta, ra)`. None where the answers given do not reach the end of the transaction, and for a
reply, which is no request. -/
def transact {E : Type} (i : Instr) (o : OpenAnswer E) (ta : List (TxAnswer E)) (ra : List (RxAnswer E)) :
    Option (List Byte × Result E) :=
  match i with
  | .setReportMode =>
    match o with
    | .failed k => some ([], .error (.transportError .opening k))
    | .ok => exchange frameReportMode .reportMode ta ra
  | .setWorkPeriod m =>
    if legalPeriod m then exchange (frameWorkPeriod m) .workPeriod ta ra else some ([], .error .tooLongWorkTime)
  | .query => exchange frameQuery .query ta ra
  | .replyConfirm _ => none
  | .replyMeasurement _ => none

/-- R142, R149: the phase a request's result leaves the block in. -/
def phaseAfter {E : Type} (i : Instr) (res : Result E) : Phase :=
  match i, res with
  | .setReportMode, .error _ => .failed
  | .setReportMode, .confirm => .ready
  | .setReportMode, .measurement _ _ => .ready
  | .setWorkPeriod _, _ => .ready
  | .query, _ => .ready
  | .replyConfirm _, _ => .ready
  | .replyMeasurement _, _ => .ready

/-- R143: the phase that accepts a command. -/
def acceptingPhase : Instr → Phase
  | .setReportMode => .unopened
  | .setWorkPeriod _ => .ready
  | .query => .ready
  | .replyConfirm _ => .rx
  | .replyMeasurement _ => .rx

/-- R175: the stage a code of `terr_stage` names. -/
def stageOfCode (c : BitVec 2) : Option Stage :=
  if c = 0 then some .opening else if c = 1 then some .write else if c = 2 then some .read else none

/-- R27, R171: the result a response register stands for; none without a response or with a code no rule writes. -/
def Rsp.result {E : Type} (r : Rsp E) : Option (Result E) :=
  if r.rspValid then
    if r.status = statusOk then
      some (if r.pmValid then .measurement r.pm25Raw r.pm10Raw else .confirm)
    else if r.status = statusTooLongWorkTime then some (.error .tooLongWorkTime)
    else if r.status = statusEmptyDataFrame then some (.error .emptyDataFrame)
    else if r.status = statusBadChecksum then some (.error .badChecksum)
    else if r.status = statusTransportError then
      (stageOfCode r.terrStage).map fun stage => .error (.transportError stage r.terr)
    else none
  else none

end Sys2Proof.Machine
end

