-- ==== Sys2Proof/Safety.lean ====
section
/-! DEFINITION. Runs, and what every state a run reaches satisfies: the block's control state, buffers and response
register fit together as R20 to R28 and R152 say. -/

namespace Sys2Proof.Machine

/-- `k` steps, stopping at the first fault or refusal. -/
def run : Nat → State → Host.Outcome State Fault Refusal
  | 0, s => .next s
  | k + 1, s =>
    match step s with
    | .next t => run k t
    | .fault f => .fault f
    | .refused r => .refused r

/-- The state whose schedule is `ts`: what a step leaves of a state in which no event happens. -/
def State.withSchedule (s : State) (ts : List Turn) : State := { s with env := { s.env with schedule := ts } }

/-- Whether a command starts its transaction at a state (R141, R143, R144, R151): the phase accepts it, the transport
opened for OPEN, and the work period is at most 30. -/
def starts (i : Instr) (s : State) : Prop :=
  match i with
  | .setReportMode => s.phase = .unopened ∧ s.env.openAns.head? = some .ok
  | .query => s.phase = .ready
  | .setWorkPeriod m => s.phase = .ready ∧ m.toNat ≤ 30
  | .replyConfirm _ => False
  | .replyMeasurement _ => False

/-- R22, R104: `TX` holds the whole frame of a command of the operation `op`. -/
def holdsCommand (op : Op) (m : Memory) : Prop :=
  ∃ i : Instr, i.wf = true ∧ acceptingPhase i ≠ .rx ∧ i.op = op ∧ m = Memory.ofBytes (encode i)

/-- The invariant of the block. It speaks of no field of the environment: what host and transport do is not
constrained. It rests on none of the reset values of log entry 1. -/
structure State.Inv (s : State) : Prop where
  /-- R22: the command buffer is in canonical form, within 0..18. -/
  txWf : Memory.wf Const.cmdLen s.tx = true
  /-- R23: the reply buffer is in canonical form, within 0..9. -/
  rxWf : Memory.wf Const.replyLen s.rx = true
  /-- R22: `txidx` is 0..19, and 19 never holds in phase `TX`. -/
  txidxBound : s.txidx ≤ Const.cmdLen ∧ (s.phase = .tx → s.txidx < Const.cmdLen)
  /-- R23: `rxcnt` is 0..10, and 10 never holds in phase `RX`. -/
  rxcntBound : s.rxcnt ≤ Const.replyLen ∧ (s.phase = .rx → s.rxcnt < Const.replyLen)
  /-- R22, R146: in phase `RX` the whole frame has been accepted. -/
  rxAfterFrame : s.phase = .rx → s.txidx = Const.cmdLen
  /-- R104: in a busy phase `TX` holds the frame of a command of the current operation. -/
  frameHeld : s.phase.busy = true → holdsCommand s.op s.tx
  /-- R23: in phase `RX` the bytes received are the ones below `rxcnt`, all written. -/
  repliesWritten : s.phase = .rx → ∀ j < s.rxcnt, (s.rx.lookup j).isSome = true
  /-- R25: `init` is 1 exactly in the construction's own transaction. -/
  initExact : s.init = true ↔ (s.phase.busy = true ∧ s.op = .reportMode)
  /-- R27, R152: a response stands in `READY` and `FAILED` and in no other phase. -/
  responseStands : s.rsp.rspValid = true ↔ (s.phase = .ready ∨ s.phase = .failed)
  /-- R171, R122: a response's `status` is a code some rule writes, so neither EMPTY_DATA_FRAME nor reserved. -/
  statusWritten : s.rsp.rspValid = true → s.rsp.status = statusOk ∨ s.rsp.status = statusTooLongWorkTime ∨
    s.rsp.status = statusBadChecksum ∨ s.rsp.status = statusTransportError
  /-- R27, R175: a transport error's `terr_stage` is a stage, 3 is never written. -/
  stageWritten : s.rsp.rspValid = true → s.rsp.status = statusTransportError → s.rsp.terrStage ≠ 3
  /-- R27, R128: `pm_valid`, which is 0 after reset (R32), is set only with success. -/
  measurementOk : s.rsp.pmValid = true → s.rsp.status = statusOk
  /-- R142: a failed construction shows its error, a checksum or a transport error. -/
  failedShowsError : s.phase = .failed →
    s.rsp.status = statusBadChecksum ∨ s.rsp.status = statusTransportError

end Sys2Proof.Machine
end

