-- ==== Sys2Proof/Certificates/Slice0/Obligations.lean ====
section
/-! DEFINITION. The statements for the provers. Each docstring names the rules of spec/ it speaks of; where a clause is
the model's own choice, it names the log entry. -/

open Sys2Proof Sys2Proof.Machine

/-! ## Frames and encoding -/

/-- R70, R71, R80, R86: every well-formed instruction's bytes decode to it, with every operand at every value; a reply
under an operation that reads replies of its kind (R83). -/
def Obligations.DecodeInvertsEncode : Prop :=
  ∀ (i : Instr) (op : Op), i.wf = true →
    (∀ r, i = .replyConfirm r → op ≠ .query) → (∀ r, i = .replyMeasurement r → op = .query) →
    decode op (encode i) = .ok i

/-- R87, R86: whatever decodes is the encoding of what it decodes to, and that is well formed: no two byte sequences
stand for one instruction under one operation. -/
def Obligations.EncodeInvertsDecode : Prop :=
  ∀ (op : Op) (F : List Byte) (i : Instr), decode op F = .ok i → i.wf = true ∧ encode i = F

/-- R87: a 19-byte sequence is the frame of a command exactly when it matches that command's row under its mask and its
byte 17 is the sum of bytes 2..16; for the work period byte 4 is at most 30. Nothing else is recognised. -/
def Obligations.CommandFrameRecognised : Prop :=
  ∀ F : List Byte, F.length = 19 →
    (decodeCommand F = .ok .setReportMode ↔
      rowSetReportMode.admits F = true ∧ F.getD 17 0 = sum8 (slice F 2 16)) ∧
    (decodeCommand F = .ok .query ↔ rowQuery.admits F = true ∧ F.getD 17 0 = sum8 (slice F 2 16)) ∧
    (∀ m, decodeCommand F = .ok (.setWorkPeriod m) ↔
      rowSetWorkPeriod.admits F = true ∧ F.getD 17 0 = sum8 (slice F 2 16) ∧ F.getD 4 0 = m ∧ m.toNat ≤ 30) ∧
    ∀ r, decodeCommand F ≠ .ok (.replyConfirm r) ∧ decodeCommand F ≠ .ok (.replyMeasurement r)

/-- R90: byte 1 of every command is 0xB4 and byte 2 alone tells which command it is. -/
def Obligations.OpcodeByteTellsCommand : Prop :=
  ∀ (F : List Byte) (i : Instr), decodeCommand F = .ok i →
    F[1]? = some 0xB4 ∧
    (F[2]? = some 0x02 ↔ i = .setReportMode) ∧
    (F[2]? = some 0x04 ↔ i = .query) ∧
    (F[2]? = some 0x08 ↔ ∃ m, i = .setWorkPeriod m) ∧
    (F[2]? = some 0x02 ∨ F[2]? = some 0x04 ∨ F[2]? = some 0x08)

/-- R105 to R107, R71, R80, R83, R89: frames written out byte by byte from the spec, as opcode table words and as byte
lists, decode to the instructions they stand for (the replies are the examples of R127 and R128); a wrong checksum and a
period of 31 do not decode (R87, R110). That byte 0 of a frame is in bits 7..0 of its table word is the model's choice
(log entry 21). -/
def Obligations.WrittenWordsDecode : Prop :=
  decodeTableWord 152 0xAB02FFFF00000000000000000000010102B4AA = some .setReportMode ∧
  decodeTableWord 152 0xAB02FFFF00000000000000000000000004B4AA = some .query ∧
  decodeTableWord 152 0xAB0CFFFF00000000000000000000050108B4AA = some (.setWorkPeriod 5) ∧
  decodeTableWord 152 0xAB0DFFFF00000000000000000000050108B4AA = none ∧
  decodeTableWord 152 0xAB26FFFF000000000000000000001F0108B4AA = none ∧
  decode .query [0xAA, 0xC0, 0x64, 0x00, 0xC8, 0x00, 0x00, 0x00, 0x2C, 0xAB] =
    .ok (.replyMeasurement ⟨0xAA, 0xC0, 0x64, 0x00, 0xC8, 0x00, 0x00, 0x00, 0x2C, 0xAB⟩) ∧
  decode .workPeriod [0xAA, 0xC5, 0x08, 0x01, 0x05, 0x00, 0x00, 0x00, 0x0E, 0xAB] =
    .ok (.replyConfirm ⟨0xAA, 0xC5, 0x08, 0x01, 0x05, 0x00, 0x00, 0x00, 0x0E, 0xAB⟩)

/-- R103: BUILD_FRAME on every 13-byte body: 19 bytes, the header, the body unchanged at 2..14, the ID bytes, the
checksum over 2..16, the tail; with the rule's example. -/
def Obligations.BuilderLaysOutEveryBody : Prop :=
  (∀ B : List Byte, B.length = 13 →
    (build B).length = 19 ∧ (build B)[0]? = some 0xAA ∧ (build B)[1]? = some 0xB4 ∧
    (∀ j, j < 13 → (build B)[2 + j]? = B[j]?) ∧
    (build B)[15]? = some 0xFF ∧ (build B)[16]? = some 0xFF ∧
    (build B)[17]? = some (sum8 (B ++ [0xFF, 0xFF])) ∧ slice (build B) 2 16 = B ++ [0xFF, 0xFF] ∧
    (build B)[18]? = some 0xAB) ∧
  build ([0x04] ++ List.replicate 12 0x00) =
    [0xAA, 0xB4, 0x04, 0, 0, 0, 0, 0, 0, 0, 0, 0, 0, 0, 0, 0xFF, 0xFF, 0x02, 0xAB]

/-- R109: the invariant of every frame the block builds. -/
def Obligations.BuiltFramesMeetTheInvariant : Prop :=
  ∀ F : List Byte, (F = frameReportMode ∨ F = frameQuery ∨ ∃ m : Byte, m.toNat ≤ 30 ∧ F = frameWorkPeriod m) →
    F.length = 19 ∧ F[0]? = some 0xAA ∧ F[1]? = some 0xB4 ∧
    (F[2]? = some 0x02 ∨ F[2]? = some 0x04 ∨ F[2]? = some 0x08) ∧
    F[15]? = some 0xFF ∧ F[16]? = some 0xFF ∧ F[17]? = some (sum8 (slice F 2 16)) ∧ F[18]? = some 0xAB

/-- R110: the work-period checksum in closed form, for every `m`, and without wrap for a legal one. -/
def Obligations.WorkPeriodChecksumClosedForm : Prop :=
  ∀ m : Byte,
    (ckTx (frameWorkPeriod m)).toNat = (0x08 + 0x01 + m.toNat + 0 + 0xFF + 0xFF) % 256 ∧
    (ckTx (frameWorkPeriod m)).toNat = (0x207 + m.toNat) % 256 ∧
    (ckTx (frameWorkPeriod m)).toNat = (0x07 + m.toNat) % 256 ∧
    (frameWorkPeriod m)[17]? = some (ckTx (frameWorkPeriod m)) ∧
    (m.toNat ≤ 30 → (ckTx (frameWorkPeriod m)).toNat = 0x07 + m.toNat ∧
      0x07 ≤ (ckTx (frameWorkPeriod m)).toNat ∧ (ckTx (frameWorkPeriod m)).toNat ≤ 0x25)

/-- R105 to R108, R70, R71: the builder's three frames are the table's bytes: the procedure of R103 and the layout of the
encoder agree, for every value of `m`. -/
def Obligations.BuilderAgreesWithEncoder : Prop :=
  frameReportMode = encode .setReportMode ∧ frameQuery = encode .query ∧
  ∀ m, frameWorkPeriod m = encode (.setWorkPeriod m)

/-- R101: the checksum does not depend on the order of the additions, on the width of the accumulator (8 bits or more),
or on masking against reducing. -/
def Obligations.AccumulatorWidthAndOrderDoNotMatter : Prop :=
  ∀ (S T : List Byte) (w : Nat), S.Perm T → 8 ≤ w →
    ((T.foldl (fun acc b => acc + b.setWidth w) (0 : BitVec w)).setWidth 8 : Byte) = sum8 S ∧
    (sum8 S).toNat = (S.map BitVec.toNat).sum % 256 ∧
    (sum8 S).toNat = (S.map BitVec.toNat).sum &&& 0xFF ∧
    (sum8 S).toNat = T.foldl (fun acc b => (acc + b.toNat) % 256) 0

/-- R102: the ID bytes' share of every command checksum is 0xFE. -/
def Obligations.IdBytesAddFE : Prop :=
  ∀ B : List Byte, B.length = 13 → ckTx (build B) = sum8 (slice (build B) 2 14) + 0xFE

/-! ## The reply validator -/

/-- R123, R125, R126: validity depends on bytes 2 to 8 alone; another checksum byte, or one changed payload byte, always
makes a valid reply invalid; two changed payload bytes may leave it valid; and the verdict a reply gets when it is
executed, BAD_CHECKSUM or not, is that, under every operation and in every state. -/
def Obligations.VerdictDependsOnBytes2To8 : Prop :=
  (∀ (r : ReplyFrame) (h e t : Byte), ({ r with head := h, echo := e, tail := t } : ReplyFrame).valid = r.valid) ∧
  (∀ (r : ReplyFrame) (c : Byte), r.valid = true → c ≠ r.ck → ({ r with ck := c } : ReplyFrame).valid = false) ∧
  (∀ (r q : ReplyFrame) (j : Nat), r.valid = true → q.ck = r.ck → j < 6 →
    q.payload[j]? ≠ r.payload[j]? → (∀ n, n ≠ j → q.payload[n]? = r.payload[n]?) → q.valid = false) ∧
  (∃ (r q : ReplyFrame), r.valid = true ∧ q.valid = true ∧ q.ck = r.ck ∧ q.p2 ≠ r.p2 ∧ q.p4 ≠ r.p4) ∧
  ∀ (op : Op) (r : ReplyFrame) (s : State),
    ∃ t, exec (replyInstr op r) s = .next t ∧ (t.rsp.status = 3 ↔ r.valid = false)

/-- R122, R173: the payload has six bytes, EMPTY_DATA_FRAME keeps code 2, and neither the validator nor any step raises
it: after a step code 2 is in `status` only if it was there before, or the step is a reset, which writes no response. -/
def Obligations.EmptyDataFrameNeverRaised : Prop :=
  (ErrInfo.emptyDataFrame : ErrInfo).code = 2 ∧
  (∀ r : ReplyFrame, r.payload.length = 6 ∧ (validate r : Except ErrInfo ReplyFrame) ≠ .error .emptyDataFrame) ∧
  ∀ s t : State, step s = .next t → t.rsp.status = 2 →
    s.rsp.status = 2 ∨ (s.env.schedule.head? = some .reset ∧ t.rsp.rspValid = false)

/-- R130: a reply executed under `op` ends in exactly the response `parse` gives. -/
def Obligations.RepliesAgreeWithParse : Prop :=
  ∀ (op : Op) (r : ReplyFrame) (s : State),
    ∃ t, exec (replyInstr op r) s = .next t ∧ t.rsp.result = some (parse op r)

/-- S8, R81, R125, R151: a measurement depends on reply bytes 2 to 5 alone: not on head, echo, tail, bytes 6 and 7, nor
on anything the block has done before. -/
def Obligations.MeasurementDependsOnBytes2To5 : Prop :=
  ∀ (s s' : State) (r r' : ReplyFrame), r.valid = true → r'.valid = true →
    r'.p2 = r.p2 → r'.p3 = r.p3 → r'.p4 = r.p4 → r'.p5 = r.p5 →
    ∃ t t', exec (.replyMeasurement r) s = .next t ∧ exec (.replyMeasurement r') s' = .next t' ∧
      t.rsp.pm25Raw = t'.rsp.pm25Raw ∧ t.rsp.pm10Raw = t'.rsp.pm10Raw ∧
      t.rsp.result = t'.rsp.result ∧ t.rsp.pmValid = true ∧ t'.rsp.pmValid = true

/-! ## A step and its instruction -/

/-- R140, R84: the host's turn with a request word that selects an instruction: the step is that instruction's meaning at
the state with the turn taken. -/
def Obligations.StepRunsTheRequest : Prop :=
  ∀ (s : State) (ts : List Turn) (w : ReqWord) (more : List ReqWord) (i : Instr),
    s.env.schedule = .host :: ts → s.env.host = w :: more → decodeRequest w = .ok i →
    step s = exec i (s.withSchedule ts)

/-- R120, R124, R83: the tenth reply byte: the step stores it and is the meaning of the instruction the ten bytes decode
to under `op`, at the state with turn, answer and byte taken. -/
def Obligations.StepRunsTheReply : Prop :=
  ∀ (s : State) (ts : List Turn) (as : List RxAnswer) (r : ReplyFrame) (i : Instr),
    s.phase = .rx → s.rxcnt = 9 → s.env.schedule = .transport :: ts → s.env.rxAns = .byte r.tail :: as →
    (∀ j, j < 9 → readByte .rx j s = .ok (r.toBytes.getD j 0)) → decode s.op r.toBytes = .ok i →
    step s = exec i { s with
      rx := s.rx.write 9 r.tail
      rxcnt := 10
      env := { s.env with schedule := ts, rxAns := as } }

/-- R84, R87, R89: a table word that decodes is run by the very next step after it is placed (how it is placed is the
model's choice, log entry 9). -/
def Obligations.PlacedWordRuns : Prop :=
  ∀ (s : State) (nbits w : Nat) (i : Instr), decodeTableWord nbits w = some i →
    ∃ t, step (s.withFetchWord nbits w) = exec i t ∧ t.rsp = s.rsp ∧ t.tx = s.tx ∧ t.env.schedule = s.env.schedule ∧
      t.env.sent = s.env.sent

/-- R140: the block never moves without an event. That events come as a list of turns, that the step with no turn left is
a step that changes nothing, and that a turn without an event takes only itself from the schedule, are the model's
choices (log entry 2); that a list of answers that has run out is a transport that does not answer is another (log
entry 3). In that form: with no turn left nothing changes; a turn in which the host offers nothing, or in which the
transport is asked nothing or does not answer, changes only the schedule. -/
def Obligations.NoEventNoMove : Prop :=
  ∀ s : State,
    (s.env.schedule = [] → step s = .next s) ∧
    ∀ ts : List Turn,
      (s.env.schedule = .host :: ts → s.env.host = [] → step s = .next (s.withSchedule ts)) ∧
      (s.env.schedule = .transport :: ts → s.phase = .unopened ∨ s.phase = .ready ∨ s.phase = .failed →
        step s = .next (s.withSchedule ts)) ∧
      (s.env.schedule = .transport :: ts → s.phase = .rx → s.env.rxAns = [] → step s = .next (s.withSchedule ts)) ∧
      (∀ b, s.env.schedule = .transport :: ts → s.phase = .tx → readByte .tx s.txidx s = .ok b → s.env.txAns = [] →
        step s = .next (s.withSchedule ts))

/-! ## The commands -/

/-- R141, R104, R105: OPEN in `UNOPENED` with the transport open: accepted, the report-mode frame written whole into
`TX`, `op` REPORT_MODE, `init` 1, phase `TX`; nothing else changes. -/
def Obligations.OpenStartsConstruction : Prop :=
  ∀ (s : State) (rest : List OpenAnswer), s.phase = .unopened → s.env.openAns = .ok :: rest →
    exec .setReportMode s = .next { s with
      phase := .tx
      op := .reportMode
      init := true
      tx := Memory.ofBytes [0xAA, 0xB4, 0x02, 0x01, 0x01, 0, 0, 0, 0, 0, 0, 0, 0, 0, 0, 0xFF, 0xFF, 0x02, 0xAB]
      txidx := 0
      rsp := { s.rsp with rspValid := false }
      env := { s.env with host := s.env.host.tail, openAns := rest } }

/-- R141, R142, R170, R175, conflict C7: OPEN in `UNOPENED` with the transport's open failed: TRANSPORT_ERROR, stage 0,
the transport's value unchanged, and phase `FAILED`, with no byte written. -/
def Obligations.FailedOpenEndsInFailed : Prop :=
  ∀ (s : State) (k : TErr) (rest : List OpenAnswer), s.phase = .unopened → s.env.openAns = .failed k :: rest →
    exec .setReportMode s = .next { s with
      phase := .failed
      op := .reportMode
      init := false
      rsp := { s.rsp with status := 4, terrStage := 0, terr := k, pmValid := false, rspValid := true }
      env := { s.env with host := s.env.host.tail, openAns := rest } }

/-- R144, R104, R107, R110: SET_WORK_PERIOD(m) in `READY` with `m <= 30`: accepted, its frame with `m` at index 4 and
checksum 7 + m written whole into `TX`, phase `TX`; nothing else changes. -/
def Obligations.LegalWorkPeriodStarts : Prop :=
  ∀ (s : State) (m : Byte), s.phase = .ready → m.toNat ≤ 30 →
    exec (.setWorkPeriod m) s = .next { s with
      phase := .tx
      op := .workPeriod
      init := false
      tx := Memory.ofBytes
        [0xAA, 0xB4, 0x08, 0x01, m, 0, 0, 0, 0, 0, 0, 0, 0, 0, 0, 0xFF, 0xFF, BitVec.ofNat 8 (7 + m.toNat), 0xAB]
      txidx := 0
      rsp := { s.rsp with rspValid := false }
      env := { s.env with host := s.env.host.tail } }

/-- R172, R144: SET_WORK_PERIOD(m) in `READY` with `m > 30`: TOO_LONG_WORK_TIME in the accepting step, phase still
`READY`, no frame built, no transport event, nothing of `m` kept. -/
def Obligations.LongWorkPeriodRejected : Prop :=
  ∀ (s : State) (m : Byte), s.phase = .ready → s.init = false → 30 < m.toNat →
    exec (.setWorkPeriod m) s = .next { s with
      rsp := { s.rsp with status := 1, pmValid := false, rspValid := true }
      env := { s.env with host := s.env.host.tail } }

/-- R151, R104, R106: QUERY in `READY`: accepted, the query frame written whole into `TX`, phase `TX`; nothing else
changes. -/
def Obligations.QueryStarts : Prop :=
  ∀ s : State, s.phase = .ready →
    exec .query s = .next { s with
      phase := .tx
      op := .query
      init := false
      tx := Memory.ofBytes [0xAA, 0xB4, 0x04, 0, 0, 0, 0, 0, 0, 0, 0, 0, 0, 0, 0, 0xFF, 0xFF, 0x02, 0xAB]
      txidx := 0
      rsp := { s.rsp with rspValid := false }
      env := { s.env with host := s.env.host.tail } }

/-- R143, R145: the acceptance table. On the host's turn with a request offered: code 0b11 is refused in every phase; any
other code is held in a busy phase, changing nothing; outside one it is refused in the phases that refuse it, and
accepted in the phase that accepts it: the request leaves the port, and either a response stands or the block is in
`TX` with `rsp_valid` 0 and the whole frame of the request in `TX`. (OPEN waits for the transport's open outcome: log
entry 5.) -/
def Obligations.AcceptanceTable : Prop :=
  ∀ (s : State) (ts : List Turn) (w : ReqWord) (more : List ReqWord),
    s.env.schedule = .host :: ts → s.env.host = w :: more →
    (w.reqOp = 0b11 → step s = .refused .reservedRequest) ∧
    (w.reqOp ≠ 0b11 → s.phase = .tx ∨ s.phase = .rx → step s = .next (s.withSchedule ts)) ∧
    (w.reqOp = 0b00 → s.phase = .ready ∨ s.phase = .failed → step s = .refused (.wrongPhase s.phase)) ∧
    (w.reqOp = 0b01 ∨ w.reqOp = 0b10 → s.phase = .unopened ∨ s.phase = .failed →
      step s = .refused (.wrongPhase s.phase)) ∧
    (∀ i, decodeRequest w = .ok i → s.phase = acceptingPhase i → (i = .setReportMode → s.env.openAns ≠ []) →
      ∃ t, step s = .next t ∧ t.env.host = more ∧
        ((t.phase = .tx ∧ t.rsp.rspValid = false ∧ ∀ j, j < 19 → readByte .tx j t = .ok ((encode i).getD j 0)) ∨
         ((t.phase = .ready ∨ t.phase = .failed) ∧ t.rsp.rspValid = true ∧ t.rsp.status ≠ 0)))

/-- The frame of the three commands (R27, R28, R104, R141, R144, R151, R170): whenever one answers a next state, every byte
of `RX` reads as before, and so does every byte of `TX` unless the command starts its transaction; then byte `j` of `TX`
is byte `j` of its frame, and `op` is its operation. A held command changes nothing. `rxcnt`, the raw fields, the delivered bytes, the transport's answers, the schedule and what
the host has read are unchanged; `txidx` changes only with a start; `terr_stage` and `terr` only with a transport error. -/
def Obligations.CommandsLeaveTheRest : Prop :=
  ∀ (i : Instr) (s t : State), (i = .setReportMode ∨ i = .query ∨ ∃ m, i = .setWorkPeriod m) → exec i s = .next t →
    (∀ j, readByte .rx j t = readByte .rx j s) ∧
    (starts i s → t.txidx = 0 ∧ ∀ j, j < 19 → readByte .tx j t = .ok ((encode i).getD j 0)) ∧
    (¬ starts i s → t.txidx = s.txidx ∧ ∀ j, readByte .tx j t = readByte .tx j s) ∧
    (starts i s → t.op = i.op) ∧ (s.phase.busy = true → t = s) ∧ (i ≠ .setReportMode → ¬ starts i s → t.op = s.op) ∧
    t.rxcnt = s.rxcnt ∧ t.rsp.pm25Raw = s.rsp.pm25Raw ∧ t.rsp.pm10Raw = s.rsp.pm10Raw ∧
    (¬ (t.rsp.rspValid = true ∧ t.rsp.status = 4) → t.rsp.terrStage = s.rsp.terrStage ∧ t.rsp.terr = s.rsp.terr) ∧
    (t.rsp.rspValid = false → t.rsp = { s.rsp with rspValid := false }) ∧
    t.env.sent = s.env.sent ∧ t.env.txAns = s.env.txAns ∧ t.env.rxAns = s.env.rxAns ∧
    t.env.schedule = s.env.schedule ∧ t.env.readings = s.env.readings

/-! ## The replies -/

/-- R127, R142, R149: a valid reply read as a confirmation: `status` OK, `pm_valid` 0, `rsp_valid` 1, phase `READY`,
`init` 0; the payload is discarded and nothing else changes. -/
def Obligations.ValidReplyConfirms : Prop :=
  ∀ (s : State) (r : ReplyFrame), sum8 [r.p2, r.p3, r.p4, r.p5, r.p6, r.p7] = r.ck →
    exec (.replyConfirm r) s = .next { s with
      phase := .ready
      init := false
      rsp := { s.rsp with status := 0, pmValid := false, rspValid := true } }

/-- R128, R53, R149: a valid reply read as a measurement: PM2.5 is bytes 3 and 2, PM10 bytes 5 and 4, high byte first
here; `status` OK, `pm_valid` 1, `rsp_valid` 1, phase `READY`, `init` 0; nothing else changes. -/
def Obligations.ValidReplyDecodes : Prop :=
  ∀ (s : State) (r : ReplyFrame), sum8 [r.p2, r.p3, r.p4, r.p5, r.p6, r.p7] = r.ck →
    exec (.replyMeasurement r) s = .next { s with
      phase := .ready
      init := false
      rsp := { s.rsp with
        status := 0
        pmValid := true
        rspValid := true
        pm25Raw := r.p3 ++ r.p2
        pm10Raw := r.p5 ++ r.p4 } }

/-- R174, R170, R178: when the tenth reply byte is received and the sum of bytes 2..7 is not byte 8, whatever the
operation: BAD_CHECKSUM, `pm_valid` 0, `rsp_valid` 1, phase `FAILED` in the construction and `READY` otherwise; neither
checksum is recorded. -/
def Obligations.BadChecksumRaised : Prop :=
  ∀ (s : State) (ts : List Turn) (as : List RxAnswer) (r : ReplyFrame),
    s.phase = .rx → s.rxcnt = 9 → s.env.schedule = .transport :: ts → s.env.rxAns = .byte r.tail :: as →
    (∀ j, j < 9 → readByte .rx j s = .ok (r.toBytes.getD j 0)) →
    sum8 [r.p2, r.p3, r.p4, r.p5, r.p6, r.p7] ≠ r.ck →
    step s = .next { s with
      phase := if s.init then .failed else .ready
      init := false
      rx := s.rx.write 9 r.tail
      rxcnt := 10
      rsp := { s.rsp with status := 3, pmValid := false, rspValid := true }
      env := { s.env with schedule := ts, rxAns := as } }

/-- The frame of the two replies (R127, R128, R170): whenever one answers a next state, every byte of `TX` and `RX` reads
as before, and `op`, `txidx`, `rxcnt`, `terr_stage`, `terr` and the environment are unchanged; the raw fields change
only with a valid measurement. -/
def Obligations.RepliesLeaveTheRest : Prop :=
  ∀ (op : Op) (r : ReplyFrame) (s t : State), exec (replyInstr op r) s = .next t →
    (∀ buf j, readByte buf j t = readByte buf j s) ∧
    t.op = s.op ∧ t.txidx = s.txidx ∧ t.rxcnt = s.rxcnt ∧ t.env = s.env ∧
    t.rsp.terrStage = s.rsp.terrStage ∧ t.rsp.terr = s.rsp.terr ∧
    (op ≠ .query ∨ r.valid = false → t.rsp.pm25Raw = s.rsp.pm25Raw ∧ t.rsp.pm10Raw = s.rsp.pm10Raw)

/-! ## The transport's steps -/

/-- R146, R55: in phase `TX` an accepted byte is `TX[txidx]`; `txidx` rises by one, and the 19th byte leaves for `RX` with
`rxcnt` 0. -/
def Obligations.AcceptedByteAdvances : Prop :=
  ∀ (s : State) (ts : List Turn) (b : Byte) (rest : List TxAnswer),
    s.phase = .tx → s.env.schedule = .transport :: ts → readByte .tx s.txidx s = .ok b →
    s.env.txAns = .accepted :: rest →
    step s = .next { s with
      phase := if s.txidx = 18 then .rx else .tx
      txidx := s.txidx + 1
      rxcnt := if s.txidx = 18 then 0 else s.rxcnt
      env := { s.env with schedule := ts, txAns := rest, sent := s.env.sent ++ [b] } }

/-- R147, R142, R149, R170: in phase `TX` a failed write raises TRANSPORT_ERROR, stage 1, and ends the transaction; the
bytes accepted stay delivered and no further byte is. -/
def Obligations.FailedWriteEnds : Prop :=
  ∀ (s : State) (ts : List Turn) (b : Byte) (k : TErr) (rest : List TxAnswer),
    s.phase = .tx → s.env.schedule = .transport :: ts → readByte .tx s.txidx s = .ok b →
    s.env.txAns = .failed k :: rest →
    step s = .next { s with
      phase := if s.init then .failed else .ready
      init := false
      rsp := { s.rsp with status := 4, terrStage := 1, terr := k, pmValid := false, rspValid := true }
      env := { s.env with schedule := ts, txAns := rest } }

/-- R120, R56, R148: in phase `RX` a byte that is not the tenth, whatever its value, is stored at `RX[rxcnt]`, every other
byte of `RX` reads as before, and nothing else changes but `rxcnt`. -/
def Obligations.ReplyByteStored : Prop :=
  ∀ (s : State) (ts : List Turn) (b : Byte) (as : List RxAnswer),
    s.phase = .rx → s.rxcnt < 9 → s.env.schedule = .transport :: ts → s.env.rxAns = .byte b :: as →
    ∃ t, step s = .next t ∧ readByte .rx s.rxcnt t = .ok b ∧
      (∀ j, j ≠ s.rxcnt → readByte .rx j t = readByte .rx j s) ∧
      t.rxcnt = s.rxcnt + 1 ∧
      { t with rx := s.rx, rxcnt := s.rxcnt } = { s with env := { s.env with schedule := ts, rxAns := as } }

/-- R148, R142, R149, R170: in phase `RX` a failed read (a timeout among them) raises TRANSPORT_ERROR, stage 2, and ends
the transaction; the bytes received are not validated. -/
def Obligations.FailedReadEnds : Prop :=
  ∀ (s : State) (ts : List Turn) (k : TErr) (as : List RxAnswer),
    s.phase = .rx → s.env.schedule = .transport :: ts → s.env.rxAns = .failed k :: as →
    step s = .next { s with
      phase := if s.init then .failed else .ready
      init := false
      rsp := { s.rsp with status := 4, terrStage := 2, terr := k, pmValid := false, rspValid := true }
      env := { s.env with schedule := ts, rxAns := as } }

/-! ## Reset -/

/-- R201: a reset in any phase abandons the transaction without a response; the delivered bytes and the reply bytes not
taken stay, and however many transport turns follow, none moves a byte. That the host's requests and what it has read
stay too is the model's choice (log entry 18). -/
def Obligations.ResetAbandonsTheTransaction : Prop :=
  ∀ (s : State) (ts : List Turn), s.env.schedule = .reset :: ts →
    ∃ t, step s = .next t ∧ t.rsp.rspValid = false ∧ t.env = { s.env with schedule := ts } ∧
      ((∀ turn ∈ ts, turn = .transport) → ∀ k, run k t = .next (t.withSchedule (ts.drop k)))

/-- R200, R32, R152: what a reset sets, from any state: phase `UNOPENED`, `init`, `txidx`, `rxcnt`, `rsp_valid` and
`pm_valid` 0, and no byte of `TX` or `RX` is written: reading one is a fault. The host may read no field but `rsp_valid`
(that it may read that one: log entry 4). -/
def Obligations.ResetSetsTheTable : Prop :=
  ∀ (s : State) (ts : List Turn), s.env.schedule = .reset :: ts →
    ∃ t, step s = .next t ∧ t.phase = .unopened ∧ t.init = false ∧ t.txidx = 0 ∧ t.rxcnt = 0 ∧
      t.rsp.rspValid = false ∧ t.rsp.pmValid = false ∧
      (∀ j, j < 19 → readByte .tx j t = .error (.unwrittenByte .tx j)) ∧
      (∀ j, j < 10 → readByte .rx j t = .error (.unwrittenByte .rx j)) ∧
      ∀ f, f ≠ .rspValid → hostRead f t = .error (.hostRead f)

/-- R32: the reset state itself has the table's values, and its buffers their canonical form. -/
def Obligations.ResetStateHasTheTablesValues : Prop :=
  State.reset.phase = .unopened ∧ State.reset.init = false ∧ State.reset.txidx = 0 ∧ State.reset.rxcnt = 0 ∧
  State.reset.rsp.rspValid = false ∧ State.reset.rsp.pmValid = false ∧
  Memory.wf 19 State.reset.tx = true ∧ Memory.wf 10 State.reset.rx = true ∧
  (∀ j, State.reset.tx.lookup j = none) ∧ ∀ j, State.reset.rx.lookup j = none

/-! ## The whole machine -/

/-- R20 to R28, R104, R142, R152, R171: every step from a state with the invariant gives a state with it. What the
invariant says of `status` and `terr_stage` it says under `rsp_valid = 1`, so it rests on no value of log entry 1. -/
def Obligations.EveryStepKeepsTheInvariant : Prop :=
  ∀ s t : State, s.Inv → step s = .next t → t.Inv

/-- R32: the invariant holds at reset. It follows from the values R32 states (`phase`, `init`, `txidx`, `rxcnt`,
`rsp_valid`, `pm_valid`, no buffer byte written) and rests on no value of log entry 1. -/
def Obligations.InvariantHoldsAtReset : Prop := State.reset.Inv

/-- R20: the phase changes only as the table of R20 says: `UNOPENED` by OPEN, `TX` to `RX`, a busy phase to `READY` or
`FAILED`, `READY` by a request; a reset apart. -/
def Obligations.PhaseChangesAsTheTableSays : Prop :=
  ∀ s t : State, s.Inv → step s = .next t → t.phase ≠ s.phase →
    (∃ ts, s.env.schedule = .reset :: ts ∧ t.phase = .unopened) ∨
    (∃ ts w more, s.env.schedule = .host :: ts ∧ s.env.host = w :: more ∧
      ((s.phase = .unopened ∧ w.reqOp = 0b00 ∧ (t.phase = .tx ∨ t.phase = .failed)) ∨
       (s.phase = .ready ∧ (w.reqOp = 0b01 ∨ w.reqOp = 0b10) ∧ t.phase = .tx))) ∨
    (∃ ts, s.env.schedule = .transport :: ts ∧
      ((s.phase = .tx ∧ t.phase = .rx ∧ s.txidx = 18 ∧ s.env.txAns.head? = some .accepted) ∨
       (s.phase = .tx ∧ (t.phase = .ready ∨ t.phase = .failed) ∧ ∃ k, s.env.txAns.head? = some (.failed k)) ∨
       (s.phase = .rx ∧ (t.phase = .ready ∨ t.phase = .failed) ∧
         ((∃ k, s.env.rxAns.head? = some (.failed k)) ∨ (s.rxcnt = 9 ∧ ∃ b, s.env.rxAns.head? = some (.byte b))))))

/-- R200, R178, R142: reset is the only way out of `FAILED`: a step from it that is not a reset leaves every field of the
block as it is. -/
def Obligations.FailedLeftOnlyByReset : Prop :=
  ∀ s t : State, s.phase = .failed → step s = .next t → s.env.schedule.head? ≠ some .reset → t = { s with env := t.env }

/-- R142, R149, R178: how a transaction ends: outside a reset, when a busy phase is left for one that is not busy, a
response stands and `init` is 0; an ordinary transaction ends in `READY`, the construction in `READY` with OK and in
`FAILED` with any error. -/
def Obligations.TransactionEndsInItsPhase : Prop :=
  ∀ s t : State, s.phase.busy = true → step s = .next t → t.phase.busy = false →
    s.env.schedule.head? ≠ some .reset →
    t.rsp.rspValid = true ∧ t.init = false ∧
    (s.init = false → t.phase = .ready) ∧
    (s.init = true → (t.rsp.status = 0 → t.phase = .ready) ∧ (t.rsp.status ≠ 0 → t.phase = .failed))

/-- R61, R55, R52: a byte reaches the transport only in phase `TX`, and it is `TX[txidx]`; so bytes go out one at a time
in index order, and `TX` is not written meanwhile (R22). -/
def Obligations.BytesGoOutInIndexOrder : Prop :=
  ∀ s t : State, step s = .next t → t.env.sent ≠ s.env.sent →
    s.phase = .tx ∧ ∃ b, readByte .tx s.txidx s = .ok b ∧ t.env.sent = s.env.sent ++ [b] ∧
      t.txidx = s.txidx + 1 ∧ t.tx = s.tx ∧ t.rsp = s.rsp

/-- R56, R58, R61, R140: an inbound answer is taken only in phase `RX`, one a step and in order, and a byte taken is
stored at `RX[rxcnt]`: none is skipped, discarded or reordered. -/
def Obligations.RepliesTakenOneByOne : Prop :=
  ∀ s t : State, step s = .next t → t.env.rxAns ≠ s.env.rxAns →
    s.phase = .rx ∧ ∃ a, s.env.rxAns = a :: t.env.rxAns ∧
      ∀ b, a = .byte b → t.rxcnt = s.rxcnt + 1 ∧ t.rx = s.rx.write s.rxcnt b

/-- R22: outside a reset, `TX` and `txidx` are as they were while a frame is being sent, but for one more accepted byte. -/
def Obligations.CommandBufferStableWhileSent : Prop :=
  ∀ s t : State, s.phase = .tx → step s = .next t → s.env.schedule.head? ≠ some .reset →
    t.tx = s.tx ∧ (t.txidx = s.txidx ∨ (t.txidx = s.txidx + 1 ∧ s.env.txAns.head? = some .accepted))

/-- R28: outside a reset, a step leaves `RSP` alone (a host read among them), or clears `rsp_valid` on accepting a request
that starts a transaction, or writes a response: at the end of a transaction, in a busy phase on the transport's turn, or
on an immediate end, in the host's turn that accepts the request at the head of its requests. -/
def Obligations.ResponseWrittenOnlyAtAnEnd : Prop :=
  ∀ s t : State, step s = .next t → s.env.schedule.head? ≠ some .reset →
    t.rsp = s.rsp ∨
    (t.rsp = { s.rsp with rspValid := false } ∧ (s.phase = .unopened ∨ s.phase = .ready) ∧ t.phase = .tx ∧
      s.env.schedule.head? = some .host ∧ ∃ w, s.env.host = w :: t.env.host) ∨
    (t.rsp.rspValid = true ∧ (t.phase = .ready ∨ t.phase = .failed) ∧
      ((s.phase.busy = true ∧ s.env.schedule.head? = some .transport) ∨
       (s.env.schedule.head? = some .host ∧
         ((s.phase = .unopened ∧ t.rsp.status = 4) ∨ (s.phase = .ready ∧ t.rsp.status = 1)) ∧
         ∃ w, s.env.host = w :: t.env.host)))

/-- R27, R128: outside a reset the raw fields change only in the step that ends a successful QUERY, which also sets
`pm_valid`. -/
def Obligations.RawFieldsWrittenOnlyByQuery : Prop :=
  ∀ s t : State, step s = .next t → s.env.schedule.head? ≠ some .reset →
    (t.rsp.pm25Raw ≠ s.rsp.pm25Raw ∨ t.rsp.pm10Raw ≠ s.rsp.pm10Raw) →
    s.phase = .rx ∧ s.op = .query ∧ s.rxcnt = 9 ∧ t.rsp.status = 0 ∧ t.rsp.pmValid = true ∧ t.rsp.rspValid = true

/-- R32, R152: from a state with the invariant only the host's own read can fault, and only on a field that carries no
meaning there: any field but `rsp_valid` without a response, a PM field without a measurement, a transport field without
a transport error. The block never reads an unwritten byte or an index it does not have. That the field is never
`rsp_valid` itself rests on log entry 4. -/
def Obligations.OnlyTheHostCanFault : Prop :=
  ∀ (s : State) (f : Fault), s.Inv → step s = .fault f →
    ∃ ts fld, f = .hostRead fld ∧ s.env.schedule = .read fld :: ts ∧ fld ≠ .rspValid ∧
      (s.rsp.rspValid = false ∨
       ((fld = .pm25Raw ∨ fld = .pm10Raw) ∧ s.rsp.pmValid = false) ∨
       ((fld = .terrStage ∨ fld = .terr) ∧ s.rsp.status ≠ 4))

/-- R154: the block never repeats a transaction of its own accord: it goes from a phase that is not busy to a busy one
only on a request the host offers; and from a phase that is not busy, however many turns of the transport come, no byte
goes out, none is taken, and the block does not change. -/
def Obligations.NoRetry : Prop :=
  (∀ s t : State, s.phase.busy = false → step s = .next t → t.phase.busy = true →
    ∃ ts w more, s.env.schedule = .host :: ts ∧ s.env.host = w :: more) ∧
  ∀ (s : State) (k : Nat), s.phase.busy = false → (∀ turn ∈ s.env.schedule, turn = .transport) →
    run k s = .next (s.withSchedule (s.env.schedule.drop k))

/-- R208, R62, R145: while the transport does not answer a `TxSend` (its list of answers has run out: log entry 3) the
block stays in `TX` and holds every request: turns of the host (which offers requests of the three operations) and of the
transport change nothing but the schedule. -/
def Obligations.UnansweredWriteBlocks : Prop :=
  ∀ (s : State) (k : Nat) (b : Byte), s.phase = .tx → s.env.txAns = [] → readByte .tx s.txidx s = .ok b →
    (∀ turn ∈ s.env.schedule, turn = .host ∨ turn = .transport) → (∀ w ∈ s.env.host, w.reqOp ≠ 0b11) →
    run k s = .next (s.withSchedule (s.env.schedule.drop k))

/-- R62: with every `TxSend` and every `RxRecv` answered, a transaction ends: from a busy state with the invariant, 29
turns of the transport bring a response. -/
def Obligations.AnsweredTransactionEnds : Prop :=
  ∀ s : State, s.Inv → s.phase.busy = true → 19 ≤ s.env.txAns.length → 10 ≤ s.env.rxAns.length →
    s.env.schedule = List.replicate 29 .transport →
    ∃ t, run 29 s = .next t ∧ t.rsp.rspValid = true ∧ (t.phase = .ready ∨ t.phase = .failed)

/-- R150: the byte-level steps compute the transaction-level function: for an accepted request and the transport's
answers, one turn of the host and 29 of the transport send exactly the bytes `transact` sends, end with exactly its
response, and leave the phase of R142 or R149. -/
def Obligations.StepsAgreeWithTransact : Prop :=
  ∀ (s : State) (i : Instr) (w : ReqWord) (more : List ReqWord) (o : OpenAnswer) (sent : List Byte) (res : Result),
    decodeRequest w = .ok i → s.phase = acceptingPhase i → s.init = false →
    s.env.host = w :: more → (i = .setReportMode → s.env.openAns.head? = some o) →
    s.env.schedule = .host :: List.replicate 29 .transport →
    transact i o s.env.txAns s.env.rxAns = some (sent, res) →
    ∃ t, run 30 s = .next t ∧ t.env.sent = s.env.sent ++ sent ∧ t.rsp.result = some res ∧
      t.phase = phaseAfter i res ∧ t.init = false ∧ t.env.host = more

/-- R176, R150: the order of the checks of one request: a rejection or a failed open before anything is sent; then a
failed write, whatever the replies would be; then a failed read, whatever the bytes before it; the checksum last. -/
def Obligations.ErrorsInTheirOrder : Prop :=
  (∀ (m : Byte) (o : OpenAnswer) (ta : List TxAnswer) (ra : List RxAnswer), 30 < m.toNat → transact (.setWorkPeriod m) o ta ra = some ([], .error .tooLongWorkTime)) ∧
  (∀ (k : TErr) (ta : List TxAnswer) (ra : List RxAnswer), transact .setReportMode (.failed k) ta ra = some ([], .error (.transportError .opening k))) ∧
  (∀ (F : List Byte) (op : Op) (n : Nat) (k : TErr) (ta : List TxAnswer) (ra : List RxAnswer), n < F.length →
    exchange F op (List.replicate n .accepted ++ .failed k :: ta) ra =
      some (F.take n, .error (.transportError .write k))) ∧
  (∀ (F bs : List Byte) (op : Op) (k : TErr) (ta : List TxAnswer) (ra : List RxAnswer), bs.length < 10 →
    exchange F op (List.replicate F.length .accepted ++ ta) (bs.map .byte ++ .failed k :: ra) =
      some (F, .error (.transportError .read k))) ∧
  (∀ (F : List Byte) (op : Op) (r : ReplyFrame) (ta : List TxAnswer) (ra : List RxAnswer),
    exchange F op (List.replicate F.length .accepted ++ ta) (r.toBytes.map .byte ++ ra) =
      some (F, if r.valid then parse op r else .error .badChecksum))

/-! ## The host's side -/

/-- R152, U15: a host read, whatever request the host offers meanwhile: a field that carries meaning is read and noted; any
other is a fault of the host program (`rsp_valid` itself is always readable: log entry 4). -/
def Obligations.HostReadsWhatCarriesMeaning : Prop :=
  ∀ (s : State) (ts : List Turn) (f : RspField), s.env.schedule = .read f :: ts → s.rsp.status ≤ 4 →
    (f ≠ .rspValid → s.rsp.rspValid = false → step s = .fault (.hostRead f)) ∧
    (f = .pm25Raw ∨ f = .pm10Raw → s.rsp.pmValid = false → step s = .fault (.hostRead f)) ∧
    (f = .terrStage ∨ f = .terr → s.rsp.status ≠ 4 → step s = .fault (.hostRead f)) ∧
    ((f = .rspValid ∨ s.rsp.rspValid = true) → (f = .pm25Raw ∨ f = .pm10Raw → s.rsp.pmValid = true) →
      (f = .terrStage ∨ f = .terr → s.rsp.status = 4) →
      ∃ v, step s = .next { s with env := { s.env with schedule := ts, readings := s.env.readings ++ [(f, v)] } } ∧
        (f = .rspValid → v = .flag s.rsp.rspValid) ∧ (f = .status → v = .status s.rsp.status) ∧
        (f = .terrStage → v = .stage s.rsp.terrStage) ∧ (f = .terr → v = .terr s.rsp.terr) ∧
        (f = .pmValid → v = .flag s.rsp.pmValid) ∧ (f = .pm25Raw → v = .raw s.rsp.pm25Raw) ∧
        (f = .pm10Raw → v = .raw s.rsp.pm10Raw))

/-- R209: `rsp_valid` goes to 0 in the step that accepts a request that starts; and from a state with the invariant, after
a host has issued a request and before `rsp_valid = 1`, be the request accepted or still held in a busy phase, or offered
in `UNOPENED`, a read of any field but `rsp_valid` is a fault of the host, and a read of `rsp_valid` gives 0 (that this
one read is no fault: log entry 4). -/
def Obligations.EarlyReadGivesNothing : Prop :=
  (∀ (i : Instr) (s t : State), starts i s → exec i s = .next t → t.rsp.rspValid = false ∧ t.phase = .tx) ∧
  ∀ (s : State) (ts : List Turn) (f : RspField), s.Inv → (s.phase.busy = true ∨ s.phase = .unopened) →
    s.env.schedule = .read f :: ts →
    (f ≠ .rspValid → step s = .fault (.hostRead f)) ∧
    (f = .rspValid → step s = .next { s with
      env := { s.env with schedule := ts, readings := s.env.readings ++ [(.rspValid, .flag false)] } })

/-- R6, R33, R175: the type of a transport failure's value is an argument of the model, and the block never looks inside
a value: a step commutes with putting another value, of any type, in the place of each failure value (the value `terr`
has after a reset, of which R32 says nothing, going to its counterpart); and the machine the host reads is the one at the
type of log entry 6. -/
def Obligations.FailureTypeIsAnArgument : Prop :=
  (∀ (E E' : Type) [Inhabited E] [Inhabited E'] (f : E → E') (s : State E), f default = default →
    stepAt (s.mapTErr f) = mapOutcome f (stepAt s)) ∧
  (∀ s : State, step s = stepAt s) ∧ ∀ (i : Instr) (s : State), exec i s = execAt i s

/-- R27: where each field stands in the packed view, with bit 7 reading 0. -/
def Obligations.PackedViewLayout : Prop :=
  ∀ r : Rsp,
    r.packed.extractLsb' 0 3 = r.status ∧ r.packed.extractLsb' 3 2 = r.terrStage ∧
    r.packed.getLsbD 5 = r.pmValid ∧ r.packed.getLsbD 6 = r.rspValid ∧ r.packed.getLsbD 7 = false ∧
    r.packed.extractLsb' 8 16 = r.pm25Raw ∧ r.packed.extractLsb' 24 16 = r.pm10Raw

/-- R129: the concentration is exactly a tenth of the raw value, from 0 to 6553.5, in steps of 0.1. -/
def Obligations.ConcentrationIsATenth : Prop :=
  ∀ raw : Raw, concentration raw * 10 = (raw.toNat : Rat) ∧ 0 ≤ concentration raw ∧ concentration raw ≤ 65535 / 10 ∧
    ∀ raw' : Raw, raw'.toNat = raw.toNat + 1 → concentration raw' = concentration raw + 1 / 10

/-- R153, R128, R129, R152: after a valid measurement the host forms the Message of its two raw values and its clock. That
the host reads both PM fields for it, so that without a measurement it forms none and faults on the first of them, and
that the timestamp is the clock's reading less the epoch, is the model's choice (log entry 16). -/
def Obligations.MessageOfAMeasurement : Prop :=
  (∀ (F : Type) (pmFloat : Rat → F) (epoch now : Int) (s : State) (r : ReplyFrame), r.valid = true →
    ∃ t, exec (.replyMeasurement r) s = .next t ∧
      formMessage pmFloat epoch now t = .ok
        { pm25 := pmFloat ((r.p2.toNat + 256 * r.p3.toNat : Nat) / 10)
          pm10 := pmFloat ((r.p4.toNat + 256 * r.p5.toNat : Nat) / 10)
          timestamp := toString (now - epoch) }) ∧
  ∀ (F : Type) (pmFloat : Rat → F) (epoch now : Int) (s : State),
    s.rsp.rspValid = false ∨ s.rsp.pmValid = false →
    formMessage pmFloat epoch now s = .error (.hostRead .pm25Raw)
end

