-- ==== Sys2Proof/Laws/Checksum.lean ====
section
/-! SUPPORT. Laws of the checksum and of the frame builder. -/

namespace Sys2Proof

@[simp] theorem sum8_nil : sum8 [] = 0 := rfl

/-- One byte more adds it in eight bits. -/
@[simp] theorem sum8_cons (b : Byte) (S : List Byte) : sum8 (b :: S) = b + sum8 S := by
  apply BitVec.eq_of_toNat_eq
  simp [sum8, BitVec.toNat_add]

theorem sum8_append (S T : List Byte) : sum8 (S ++ T) = sum8 S + sum8 T := by
  induction S with
  | nil => simp
  | cons b S ih => simp [ih, BitVec.add_assoc]

/-- The payload of a reply, spelled out. -/
theorem payload_eq (r : ReplyFrame) : r.payload = [r.p2, r.p3, r.p4, r.p5, r.p6, r.p7] := rfl

/-- The reply checksum is the sum of the payload. -/
theorem ckRx_eq (r : ReplyFrame) : ckRx r.toBytes = sum8 r.payload := rfl

namespace Machine

/-- Everything the validator can answer: BAD_CHECKSUM, or the reply itself; EMPTY_DATA_FRAME never (R122). -/
theorem validate_eq {E : Type} (r : ReplyFrame) : (validate r : Except (ErrInfo E) ReplyFrame) = if r.valid then .ok r else .error .badChecksum := by
  have hl : r.payload.length ≠ 0 := by simp [payload_eq]
  unfold validate ReplyFrame.valid
  rw [if_neg hl, ckRx_eq]
  by_cases h : sum8 r.payload = r.ck <;> simp [h]

end Machine
end Sys2Proof
end

