-- ==== Sys2Proof/Laws/Memory.lean ====
section
/-! SUPPORT. The laws of the frame buffers: a read after a write, and that every operation keeps the canonical form. -/

namespace Sys2Proof.Machine

theorem lookup_write_same (m : Memory) (i : Nat) (b : Byte) : (m.write i b).lookup i = some b := by
  induction m with
  | nil => simp [Memory.write, Memory.lookup]
  | cons c rest ih =>
    obtain ⟨a, v⟩ := c
    simp only [Memory.write]
    split
    · simp [Memory.lookup]
    · split
      · simp [Memory.lookup]
      · rename_i h
        simp [Memory.lookup, ih, Ne.symm h]

theorem lookup_write_other (m : Memory) {i j : Nat} (b : Byte) (h : j ≠ i) : (m.write i b).lookup j = m.lookup j := by
  induction m with
  | nil => simp [Memory.write, Memory.lookup, h.symm]
  | cons c rest ih =>
    obtain ⟨a, v⟩ := c
    simp only [Memory.write]
    split
    · simp [Memory.lookup, h.symm]
    · split
      · rename_i _ e
        subst e
        simp [Memory.lookup, h.symm]
      · simp only [Memory.lookup, ih]

/-- A write at or above the bound keeps the canonical form from that bound. -/
theorem risesFrom_write {size lo i : Nat} (b : Byte) (hlo : lo ≤ i) (hi : i < size) (m : Memory)
    (h : m.risesFrom size lo = true) : (m.write i b).risesFrom size lo = true := by
  induction m generalizing lo with
  | nil => simp [Memory.write, Memory.risesFrom, hlo, hi]
  | cons c rest ih =>
    obtain ⟨a, v⟩ := c
    simp only [Memory.risesFrom, Bool.and_eq_true, decide_eq_true_eq] at h
    obtain ⟨⟨h1, h2⟩, h3⟩ := h
    simp only [Memory.write]
    split
    · rename_i hlt
      simp [Memory.risesFrom, hlo, hi, h2, h3, hlt]
    · split
      · rename_i _ e
        subst e
        simp [Memory.risesFrom, hlo, hi, h3]
      · have : a + 1 ≤ i := by omega
        simp [Memory.risesFrom, h1, h2, ih this h3]

/-- `Memory.write` keeps the canonical form. -/
theorem wf_write {size i : Nat} (b : Byte) (hi : i < size) (m : Memory) (h : m.wf size = true) :
    (m.write i b).wf size = true :=
  risesFrom_write b (Nat.zero_le i) hi m h

theorem risesFrom_ofBytesFrom {size : Nat} (F : List Byte) (i : Nat) (h : i + F.length ≤ size) :
    (Memory.ofBytesFrom i F).risesFrom size i = true := by
  induction F generalizing i with
  | nil => rfl
  | cons b rest ih =>
    simp only [List.length_cons] at h
    have hi : i < size := by omega
    simp [Memory.ofBytesFrom, Memory.risesFrom, hi, ih (i + 1) (by omega)]

/-- A buffer written whole is in canonical form. -/
theorem wf_ofBytes {size : Nat} (F : List Byte) (h : F.length ≤ size) : (Memory.ofBytes F).wf size = true :=
  risesFrom_ofBytesFrom F 0 (by omega)

theorem lookup_ofBytesFrom (F : List Byte) (i j : Nat) :
    (Memory.ofBytesFrom i F).lookup (i + j) = F[j]? := by
  induction F generalizing i j with
  | nil => rfl
  | cons b rest ih =>
    cases j with
    | zero => simp [Memory.ofBytesFrom, Memory.lookup]
    | succ j =>
      have := ih (i + 1) j
      rw [Nat.add_assoc, Nat.add_comm 1 j] at this
      simp [Memory.ofBytesFrom, Memory.lookup, this]

/-- Byte `j` of a buffer written whole is byte `j` of the sequence. -/
theorem lookup_ofBytes (F : List Byte) (j : Nat) : (Memory.ofBytes F).lookup j = F[j]? := by
  have := lookup_ofBytesFrom F 0 j
  rwa [Nat.zero_add] at this

/-- The empty buffer, the one after reset, is in canonical form. -/
theorem wf_nil (size : Nat) : Memory.wf size [] = true := rfl

/-- A byte read is an index of the buffer and a byte written there. -/
theorem readByte_ok {buf : Buffer} {i : Nat} {E : Type} {s : State E} {b : Byte} :
    readByte buf i s = .ok b ↔ i < buf.size ∧ (s.buffer buf).lookup i = some b := by
  unfold readByte
  split
  · rename_i h
    cases hl : (s.buffer buf).lookup i <;> simp [h]
  · rename_i h
    simp [h]

/-- A byte read depends on its buffer alone. -/
theorem readByte_congr {buf : Buffer} {i : Nat} {E : Type} {s t : State E} (h : s.buffer buf = t.buffer buf) :
    readByte buf i s = readByte buf i t := by
  simp [readByte, h]

end Sys2Proof.Machine
end

