-- ==== Sys2Proof/Laws/Parametric.lean ====
section
/-! SUPPORT. The machine the host reads is the parametric one, at the type of Config.lean. -/

namespace Sys2Proof.Machine

theorem exec_eq_execAt (i : Instr) (s : State) : exec i s = execAt i s := by cases i <;> rfl

theorem step_eq_stepAt (s : State) : step s = stepAt s := by
  unfold step stepAt
  cases fetch s with
  | run i t => exact exec_eq_execAt i t
  | answer o => rfl

variable {E E' : Type} (f : E → E') (s : State E)

@[simp] theorem mapTErr_phase : (s.mapTErr f).phase = s.phase := rfl
@[simp] theorem mapTErr_op : (s.mapTErr f).op = s.op := rfl
@[simp] theorem mapTErr_init : (s.mapTErr f).init = s.init := rfl
@[simp] theorem mapTErr_tx : (s.mapTErr f).tx = s.tx := rfl
@[simp] theorem mapTErr_txidx : (s.mapTErr f).txidx = s.txidx := rfl
@[simp] theorem mapTErr_rx : (s.mapTErr f).rx = s.rx := rfl
@[simp] theorem mapTErr_rxcnt : (s.mapTErr f).rxcnt = s.rxcnt := rfl
@[simp] theorem mapTErr_rsp : (s.mapTErr f).rsp = s.rsp.mapTErr f := rfl
@[simp] theorem mapTErr_env_schedule : (s.mapTErr f).env.schedule = s.env.schedule := rfl
@[simp] theorem mapTErr_env_host : (s.mapTErr f).env.host = s.env.host := rfl
@[simp] theorem mapTErr_env_openAns : (s.mapTErr f).env.openAns = s.env.openAns.map (OpenAnswer.mapTErr f) := rfl
@[simp] theorem mapTErr_env_txAns : (s.mapTErr f).env.txAns = s.env.txAns.map (TxAnswer.mapTErr f) := rfl
@[simp] theorem mapTErr_env_rxAns : (s.mapTErr f).env.rxAns = s.env.rxAns.map (RxAnswer.mapTErr f) := rfl
@[simp] theorem mapTErr_env_sent : (s.mapTErr f).env.sent = s.env.sent := rfl

@[simp] theorem Rsp_mapTErr_rspValid (r : Rsp E) : (r.mapTErr f).rspValid = r.rspValid := rfl
@[simp] theorem Rsp_mapTErr_status (r : Rsp E) : (r.mapTErr f).status = r.status := rfl
@[simp] theorem Rsp_mapTErr_terrStage (r : Rsp E) : (r.mapTErr f).terrStage = r.terrStage := rfl
@[simp] theorem Rsp_mapTErr_terr (r : Rsp E) : (r.mapTErr f).terr = f r.terr := rfl
@[simp] theorem Rsp_mapTErr_pmValid (r : Rsp E) : (r.mapTErr f).pmValid = r.pmValid := rfl
@[simp] theorem Rsp_mapTErr_pm25Raw (r : Rsp E) : (r.mapTErr f).pm25Raw = r.pm25Raw := rfl
@[simp] theorem Rsp_mapTErr_pm10Raw (r : Rsp E) : (r.mapTErr f).pm10Raw = r.pm10Raw := rfl

/-- A buffer byte reads the same: no failure value is in a buffer. -/
@[simp] theorem readByte_mapTErr (buf : Buffer) (i : Nat) : readByte buf i (s.mapTErr f) = readByte buf i s := by
  cases buf <;> rfl

end Sys2Proof.Machine
end

