-- ==== Sys2Proof/Laws/PerInstr.lean ====
section
/-! SUPPORT. The per-instruction family FrameLength: a well-formed instruction's bytes are a frame of its direction. -/

namespace Sys2Proof.Laws.FrameLength

/-- R86: 19 bytes outbound, 10 inbound. -/
def lengthOf : Instr → Nat
  | .setReportMode => Const.cmdLen
  | .query => Const.cmdLen
  | .setWorkPeriod _ => Const.cmdLen
  | .replyConfirm _ => Const.replyLen
  | .replyMeasurement _ => Const.replyLen

/-- R86: the encoded frame has the length of its direction. -/
def Statement (i : Instr) : Prop := i.wf = true → (encode i).length = lengthOf i

theorem setReportMode : Statement .setReportMode := fun _ => rfl
theorem query : Statement .query := fun _ => rfl
theorem setWorkPeriod (m : Byte) : Statement (.setWorkPeriod m) := fun _ => rfl
theorem replyConfirm (r : ReplyFrame) : Statement (.replyConfirm r) := fun _ => rfl
theorem replyMeasurement (r : ReplyFrame) : Statement (.replyMeasurement r) := fun _ => rfl

end Sys2Proof.Laws.FrameLength
end

