-- ==== Sys2Proof/Laws/State.lean ====
section
/-! SUPPORT. One lemma per field per update, each true by rfl: what every shared operation does to each field. -/

namespace Sys2Proof.Machine

variable {E : Type} (s : State E)

/-! ## accept -/

@[simp] theorem accept_phase : (accept s).phase = s.phase := rfl
@[simp] theorem accept_op : (accept s).op = s.op := rfl
@[simp] theorem accept_init : (accept s).init = s.init := rfl
@[simp] theorem accept_tx : (accept s).tx = s.tx := rfl
@[simp] theorem accept_txidx : (accept s).txidx = s.txidx := rfl
@[simp] theorem accept_rx : (accept s).rx = s.rx := rfl
@[simp] theorem accept_rxcnt : (accept s).rxcnt = s.rxcnt := rfl
@[simp] theorem accept_rsp_rspValid : (accept s).rsp.rspValid = false := rfl
@[simp] theorem accept_rsp_status : (accept s).rsp.status = s.rsp.status := rfl
@[simp] theorem accept_rsp_terrStage : (accept s).rsp.terrStage = s.rsp.terrStage := rfl
@[simp] theorem accept_rsp_terr : (accept s).rsp.terr = s.rsp.terr := rfl
@[simp] theorem accept_rsp_pmValid : (accept s).rsp.pmValid = s.rsp.pmValid := rfl
@[simp] theorem accept_rsp_pm25Raw : (accept s).rsp.pm25Raw = s.rsp.pm25Raw := rfl
@[simp] theorem accept_rsp_pm10Raw : (accept s).rsp.pm10Raw = s.rsp.pm10Raw := rfl
@[simp] theorem accept_env_schedule : (accept s).env.schedule = s.env.schedule := rfl
@[simp] theorem accept_env_host : (accept s).env.host = s.env.host.tail := rfl
@[simp] theorem accept_env_openAns : (accept s).env.openAns = s.env.openAns := rfl
@[simp] theorem accept_env_txAns : (accept s).env.txAns = s.env.txAns := rfl
@[simp] theorem accept_env_rxAns : (accept s).env.rxAns = s.env.rxAns := rfl
@[simp] theorem accept_env_sent : (accept s).env.sent = s.env.sent := rfl
@[simp] theorem accept_env_readings : (accept s).env.readings = s.env.readings := rfl

/-! ## startFrame -/

@[simp] theorem startFrame_phase (F : List Byte) : (startFrame F s).phase = .tx := rfl
@[simp] theorem startFrame_op (F : List Byte) : (startFrame F s).op = s.op := rfl
@[simp] theorem startFrame_init (F : List Byte) : (startFrame F s).init = s.init := rfl
@[simp] theorem startFrame_tx (F : List Byte) : (startFrame F s).tx = Memory.ofBytes F := rfl
@[simp] theorem startFrame_txidx (F : List Byte) : (startFrame F s).txidx = 0 := rfl
@[simp] theorem startFrame_rx (F : List Byte) : (startFrame F s).rx = s.rx := rfl
@[simp] theorem startFrame_rxcnt (F : List Byte) : (startFrame F s).rxcnt = s.rxcnt := rfl
@[simp] theorem startFrame_rsp (F : List Byte) : (startFrame F s).rsp = s.rsp := rfl
@[simp] theorem startFrame_env (F : List Byte) : (startFrame F s).env = s.env := rfl

/-! ## raise -/

@[simp] theorem raise_phase (e : ErrInfo E) : (raise e s).phase = phaseAfterError s.init := rfl
@[simp] theorem raise_op (e : ErrInfo E) : (raise e s).op = s.op := rfl
@[simp] theorem raise_init (e : ErrInfo E) : (raise e s).init = false := rfl
@[simp] theorem raise_tx (e : ErrInfo E) : (raise e s).tx = s.tx := rfl
@[simp] theorem raise_txidx (e : ErrInfo E) : (raise e s).txidx = s.txidx := rfl
@[simp] theorem raise_rx (e : ErrInfo E) : (raise e s).rx = s.rx := rfl
@[simp] theorem raise_rxcnt (e : ErrInfo E) : (raise e s).rxcnt = s.rxcnt := rfl
@[simp] theorem raise_rsp (e : ErrInfo E) : (raise e s).rsp = s.rsp.ofError e := rfl
@[simp] theorem raise_env (e : ErrInfo E) : (raise e s).env = s.env := rfl

/-! ## respondConfirm -/

@[simp] theorem respondConfirm_phase : (respondConfirm s).phase = .ready := rfl
@[simp] theorem respondConfirm_op : (respondConfirm s).op = s.op := rfl
@[simp] theorem respondConfirm_init : (respondConfirm s).init = false := rfl
@[simp] theorem respondConfirm_tx : (respondConfirm s).tx = s.tx := rfl
@[simp] theorem respondConfirm_txidx : (respondConfirm s).txidx = s.txidx := rfl
@[simp] theorem respondConfirm_rx : (respondConfirm s).rx = s.rx := rfl
@[simp] theorem respondConfirm_rxcnt : (respondConfirm s).rxcnt = s.rxcnt := rfl
@[simp] theorem respondConfirm_rsp_rspValid : (respondConfirm s).rsp.rspValid = true := rfl
@[simp] theorem respondConfirm_rsp_status : (respondConfirm s).rsp.status = statusOk := rfl
@[simp] theorem respondConfirm_rsp_terrStage : (respondConfirm s).rsp.terrStage = s.rsp.terrStage := rfl
@[simp] theorem respondConfirm_rsp_terr : (respondConfirm s).rsp.terr = s.rsp.terr := rfl
@[simp] theorem respondConfirm_rsp_pmValid : (respondConfirm s).rsp.pmValid = false := rfl
@[simp] theorem respondConfirm_rsp_pm25Raw : (respondConfirm s).rsp.pm25Raw = s.rsp.pm25Raw := rfl
@[simp] theorem respondConfirm_rsp_pm10Raw : (respondConfirm s).rsp.pm10Raw = s.rsp.pm10Raw := rfl
@[simp] theorem respondConfirm_env : (respondConfirm s).env = s.env := rfl

/-! ## respondMeasurement -/

@[simp] theorem respondMeasurement_phase (a b : Raw) : (respondMeasurement a b s).phase = .ready := rfl
@[simp] theorem respondMeasurement_op (a b : Raw) : (respondMeasurement a b s).op = s.op := rfl
@[simp] theorem respondMeasurement_init (a b : Raw) : (respondMeasurement a b s).init = false := rfl
@[simp] theorem respondMeasurement_tx (a b : Raw) : (respondMeasurement a b s).tx = s.tx := rfl
@[simp] theorem respondMeasurement_txidx (a b : Raw) : (respondMeasurement a b s).txidx = s.txidx := rfl
@[simp] theorem respondMeasurement_rx (a b : Raw) : (respondMeasurement a b s).rx = s.rx := rfl
@[simp] theorem respondMeasurement_rxcnt (a b : Raw) : (respondMeasurement a b s).rxcnt = s.rxcnt := rfl
@[simp] theorem respondMeasurement_rsp_rspValid (a b : Raw) : (respondMeasurement a b s).rsp.rspValid = true := rfl
@[simp] theorem respondMeasurement_rsp_status (a b : Raw) : (respondMeasurement a b s).rsp.status = statusOk := rfl
@[simp] theorem respondMeasurement_rsp_terrStage (a b : Raw) : (respondMeasurement a b s).rsp.terrStage = s.rsp.terrStage := rfl
@[simp] theorem respondMeasurement_rsp_terr (a b : Raw) : (respondMeasurement a b s).rsp.terr = s.rsp.terr := rfl
@[simp] theorem respondMeasurement_rsp_pmValid (a b : Raw) : (respondMeasurement a b s).rsp.pmValid = true := rfl
@[simp] theorem respondMeasurement_rsp_pm25Raw (a b : Raw) : (respondMeasurement a b s).rsp.pm25Raw = a := rfl
@[simp] theorem respondMeasurement_rsp_pm10Raw (a b : Raw) : (respondMeasurement a b s).rsp.pm10Raw = b := rfl
@[simp] theorem respondMeasurement_env (a b : Raw) : (respondMeasurement a b s).env = s.env := rfl

/-! ## takeTurn -/

@[simp] theorem takeTurn_phase : (takeTurn s).phase = s.phase := rfl
@[simp] theorem takeTurn_op : (takeTurn s).op = s.op := rfl
@[simp] theorem takeTurn_init : (takeTurn s).init = s.init := rfl
@[simp] theorem takeTurn_tx : (takeTurn s).tx = s.tx := rfl
@[simp] theorem takeTurn_txidx : (takeTurn s).txidx = s.txidx := rfl
@[simp] theorem takeTurn_rx : (takeTurn s).rx = s.rx := rfl
@[simp] theorem takeTurn_rxcnt : (takeTurn s).rxcnt = s.rxcnt := rfl
@[simp] theorem takeTurn_rsp : (takeTurn s).rsp = s.rsp := rfl
@[simp] theorem takeTurn_env_schedule : (takeTurn s).env.schedule = s.env.schedule.tail := rfl
@[simp] theorem takeTurn_env_host : (takeTurn s).env.host = s.env.host := rfl
@[simp] theorem takeTurn_env_openAns : (takeTurn s).env.openAns = s.env.openAns := rfl
@[simp] theorem takeTurn_env_txAns : (takeTurn s).env.txAns = s.env.txAns := rfl
@[simp] theorem takeTurn_env_rxAns : (takeTurn s).env.rxAns = s.env.rxAns := rfl
@[simp] theorem takeTurn_env_sent : (takeTurn s).env.sent = s.env.sent := rfl
@[simp] theorem takeTurn_env_readings : (takeTurn s).env.readings = s.env.readings := rfl

/-! ## noteReading -/

@[simp] theorem noteReading_phase (f : RspField) (v : Reading E) : (noteReading f v s).phase = s.phase := rfl
@[simp] theorem noteReading_op (f : RspField) (v : Reading E) : (noteReading f v s).op = s.op := rfl
@[simp] theorem noteReading_init (f : RspField) (v : Reading E) : (noteReading f v s).init = s.init := rfl
@[simp] theorem noteReading_tx (f : RspField) (v : Reading E) : (noteReading f v s).tx = s.tx := rfl
@[simp] theorem noteReading_txidx (f : RspField) (v : Reading E) : (noteReading f v s).txidx = s.txidx := rfl
@[simp] theorem noteReading_rx (f : RspField) (v : Reading E) : (noteReading f v s).rx = s.rx := rfl
@[simp] theorem noteReading_rxcnt (f : RspField) (v : Reading E) : (noteReading f v s).rxcnt = s.rxcnt := rfl
@[simp] theorem noteReading_rsp (f : RspField) (v : Reading E) : (noteReading f v s).rsp = s.rsp := rfl
@[simp] theorem noteReading_env_schedule (f : RspField) (v : Reading E) : (noteReading f v s).env.schedule = s.env.schedule := rfl
@[simp] theorem noteReading_env_host (f : RspField) (v : Reading E) : (noteReading f v s).env.host = s.env.host := rfl
@[simp] theorem noteReading_env_openAns (f : RspField) (v : Reading E) : (noteReading f v s).env.openAns = s.env.openAns := rfl
@[simp] theorem noteReading_env_txAns (f : RspField) (v : Reading E) : (noteReading f v s).env.txAns = s.env.txAns := rfl
@[simp] theorem noteReading_env_rxAns (f : RspField) (v : Reading E) : (noteReading f v s).env.rxAns = s.env.rxAns := rfl
@[simp] theorem noteReading_env_sent (f : RspField) (v : Reading E) : (noteReading f v s).env.sent = s.env.sent := rfl
@[simp] theorem noteReading_env_readings (f : RspField) (v : Reading E) : (noteReading f v s).env.readings = s.env.readings ++ [(f, v)] := rfl

/-! ## storeReplyByte -/

@[simp] theorem storeReplyByte_phase (b : Byte) : (storeReplyByte b s).phase = s.phase := rfl
@[simp] theorem storeReplyByte_op (b : Byte) : (storeReplyByte b s).op = s.op := rfl
@[simp] theorem storeReplyByte_init (b : Byte) : (storeReplyByte b s).init = s.init := rfl
@[simp] theorem storeReplyByte_tx (b : Byte) : (storeReplyByte b s).tx = s.tx := rfl
@[simp] theorem storeReplyByte_txidx (b : Byte) : (storeReplyByte b s).txidx = s.txidx := rfl
@[simp] theorem storeReplyByte_rx (b : Byte) : (storeReplyByte b s).rx = s.rx.write s.rxcnt b := rfl
@[simp] theorem storeReplyByte_rxcnt (b : Byte) : (storeReplyByte b s).rxcnt = s.rxcnt + 1 := rfl
@[simp] theorem storeReplyByte_rsp (b : Byte) : (storeReplyByte b s).rsp = s.rsp := rfl
@[simp] theorem storeReplyByte_env (b : Byte) : (storeReplyByte b s).env = s.env := rfl

/-! ## resetBlock -/

@[simp] theorem resetBlock_phase [Inhabited E] : (resetBlock s).phase = .unopened := rfl
@[simp] theorem resetBlock_op [Inhabited E] : (resetBlock s).op = .reportMode := rfl
@[simp] theorem resetBlock_init [Inhabited E] : (resetBlock s).init = false := rfl
@[simp] theorem resetBlock_tx [Inhabited E] : (resetBlock s).tx = [] := rfl
@[simp] theorem resetBlock_txidx [Inhabited E] : (resetBlock s).txidx = 0 := rfl
@[simp] theorem resetBlock_rx [Inhabited E] : (resetBlock s).rx = [] := rfl
@[simp] theorem resetBlock_rxcnt [Inhabited E] : (resetBlock s).rxcnt = 0 := rfl
@[simp] theorem resetBlock_rsp [Inhabited E] : (resetBlock s).rsp = Rsp.reset := rfl
@[simp] theorem resetBlock_env [Inhabited E] : (resetBlock s).env = s.env := rfl

/-! ## beginConstruction -/

@[simp] theorem beginConstruction_phase (os : List (OpenAnswer E)) : (beginConstruction os s).phase = s.phase := rfl
@[simp] theorem beginConstruction_op (os : List (OpenAnswer E)) : (beginConstruction os s).op = .reportMode := rfl
@[simp] theorem beginConstruction_init (os : List (OpenAnswer E)) : (beginConstruction os s).init = true := rfl
@[simp] theorem beginConstruction_tx (os : List (OpenAnswer E)) : (beginConstruction os s).tx = s.tx := rfl
@[simp] theorem beginConstruction_txidx (os : List (OpenAnswer E)) : (beginConstruction os s).txidx = s.txidx := rfl
@[simp] theorem beginConstruction_rx (os : List (OpenAnswer E)) : (beginConstruction os s).rx = s.rx := rfl
@[simp] theorem beginConstruction_rxcnt (os : List (OpenAnswer E)) : (beginConstruction os s).rxcnt = s.rxcnt := rfl
@[simp] theorem beginConstruction_rsp_rspValid (os : List (OpenAnswer E)) : (beginConstruction os s).rsp.rspValid = false := rfl
@[simp] theorem beginConstruction_rsp_status (os : List (OpenAnswer E)) : (beginConstruction os s).rsp.status = s.rsp.status := rfl
@[simp] theorem beginConstruction_rsp_terrStage (os : List (OpenAnswer E)) : (beginConstruction os s).rsp.terrStage = s.rsp.terrStage := rfl
@[simp] theorem beginConstruction_rsp_terr (os : List (OpenAnswer E)) : (beginConstruction os s).rsp.terr = s.rsp.terr := rfl
@[simp] theorem beginConstruction_rsp_pmValid (os : List (OpenAnswer E)) : (beginConstruction os s).rsp.pmValid = s.rsp.pmValid := rfl
@[simp] theorem beginConstruction_rsp_pm25Raw (os : List (OpenAnswer E)) : (beginConstruction os s).rsp.pm25Raw = s.rsp.pm25Raw := rfl
@[simp] theorem beginConstruction_rsp_pm10Raw (os : List (OpenAnswer E)) : (beginConstruction os s).rsp.pm10Raw = s.rsp.pm10Raw := rfl
@[simp] theorem beginConstruction_env_schedule (os : List (OpenAnswer E)) : (beginConstruction os s).env.schedule = s.env.schedule := rfl
@[simp] theorem beginConstruction_env_host (os : List (OpenAnswer E)) : (beginConstruction os s).env.host = s.env.host.tail := rfl
@[simp] theorem beginConstruction_env_openAns (os : List (OpenAnswer E)) : (beginConstruction os s).env.openAns = os := rfl
@[simp] theorem beginConstruction_env_txAns (os : List (OpenAnswer E)) : (beginConstruction os s).env.txAns = s.env.txAns := rfl
@[simp] theorem beginConstruction_env_rxAns (os : List (OpenAnswer E)) : (beginConstruction os s).env.rxAns = s.env.rxAns := rfl
@[simp] theorem beginConstruction_env_sent (os : List (OpenAnswer E)) : (beginConstruction os s).env.sent = s.env.sent := rfl
@[simp] theorem beginConstruction_env_readings (os : List (OpenAnswer E)) : (beginConstruction os s).env.readings = s.env.readings := rfl

/-! ## beginOrdinary -/

@[simp] theorem beginOrdinary_phase (op : Op) : (beginOrdinary op s).phase = s.phase := rfl
@[simp] theorem beginOrdinary_op (op : Op) : (beginOrdinary op s).op = op := rfl
@[simp] theorem beginOrdinary_init (op : Op) : (beginOrdinary op s).init = false := rfl
@[simp] theorem beginOrdinary_tx (op : Op) : (beginOrdinary op s).tx = s.tx := rfl
@[simp] theorem beginOrdinary_txidx (op : Op) : (beginOrdinary op s).txidx = s.txidx := rfl
@[simp] theorem beginOrdinary_rx (op : Op) : (beginOrdinary op s).rx = s.rx := rfl
@[simp] theorem beginOrdinary_rxcnt (op : Op) : (beginOrdinary op s).rxcnt = s.rxcnt := rfl
@[simp] theorem beginOrdinary_rsp_rspValid (op : Op) : (beginOrdinary op s).rsp.rspValid = false := rfl
@[simp] theorem beginOrdinary_rsp_status (op : Op) : (beginOrdinary op s).rsp.status = s.rsp.status := rfl
@[simp] theorem beginOrdinary_rsp_terrStage (op : Op) : (beginOrdinary op s).rsp.terrStage = s.rsp.terrStage := rfl
@[simp] theorem beginOrdinary_rsp_terr (op : Op) : (beginOrdinary op s).rsp.terr = s.rsp.terr := rfl
@[simp] theorem beginOrdinary_rsp_pmValid (op : Op) : (beginOrdinary op s).rsp.pmValid = s.rsp.pmValid := rfl
@[simp] theorem beginOrdinary_rsp_pm25Raw (op : Op) : (beginOrdinary op s).rsp.pm25Raw = s.rsp.pm25Raw := rfl
@[simp] theorem beginOrdinary_rsp_pm10Raw (op : Op) : (beginOrdinary op s).rsp.pm10Raw = s.rsp.pm10Raw := rfl
@[simp] theorem beginOrdinary_env_schedule (op : Op) : (beginOrdinary op s).env.schedule = s.env.schedule := rfl
@[simp] theorem beginOrdinary_env_host (op : Op) : (beginOrdinary op s).env.host = s.env.host.tail := rfl
@[simp] theorem beginOrdinary_env_openAns (op : Op) : (beginOrdinary op s).env.openAns = s.env.openAns := rfl
@[simp] theorem beginOrdinary_env_txAns (op : Op) : (beginOrdinary op s).env.txAns = s.env.txAns := rfl
@[simp] theorem beginOrdinary_env_rxAns (op : Op) : (beginOrdinary op s).env.rxAns = s.env.rxAns := rfl
@[simp] theorem beginOrdinary_env_sent (op : Op) : (beginOrdinary op s).env.sent = s.env.sent := rfl
@[simp] theorem beginOrdinary_env_readings (op : Op) : (beginOrdinary op s).env.readings = s.env.readings := rfl

/-! ## takeTxAnswer -/

@[simp] theorem takeTxAnswer_phase (as : List (TxAnswer E)) : (takeTxAnswer as s).phase = s.phase := rfl
@[simp] theorem takeTxAnswer_op (as : List (TxAnswer E)) : (takeTxAnswer as s).op = s.op := rfl
@[simp] theorem takeTxAnswer_init (as : List (TxAnswer E)) : (takeTxAnswer as s).init = s.init := rfl
@[simp] theorem takeTxAnswer_tx (as : List (TxAnswer E)) : (takeTxAnswer as s).tx = s.tx := rfl
@[simp] theorem takeTxAnswer_txidx (as : List (TxAnswer E)) : (takeTxAnswer as s).txidx = s.txidx := rfl
@[simp] theorem takeTxAnswer_rx (as : List (TxAnswer E)) : (takeTxAnswer as s).rx = s.rx := rfl
@[simp] theorem takeTxAnswer_rxcnt (as : List (TxAnswer E)) : (takeTxAnswer as s).rxcnt = s.rxcnt := rfl
@[simp] theorem takeTxAnswer_rsp (as : List (TxAnswer E)) : (takeTxAnswer as s).rsp = s.rsp := rfl
@[simp] theorem takeTxAnswer_env_schedule (as : List (TxAnswer E)) : (takeTxAnswer as s).env.schedule = s.env.schedule := rfl
@[simp] theorem takeTxAnswer_env_host (as : List (TxAnswer E)) : (takeTxAnswer as s).env.host = s.env.host := rfl
@[simp] theorem takeTxAnswer_env_openAns (as : List (TxAnswer E)) : (takeTxAnswer as s).env.openAns = s.env.openAns := rfl
@[simp] theorem takeTxAnswer_env_txAns (as : List (TxAnswer E)) : (takeTxAnswer as s).env.txAns = as := rfl
@[simp] theorem takeTxAnswer_env_rxAns (as : List (TxAnswer E)) : (takeTxAnswer as s).env.rxAns = s.env.rxAns := rfl
@[simp] theorem takeTxAnswer_env_sent (as : List (TxAnswer E)) : (takeTxAnswer as s).env.sent = s.env.sent := rfl
@[simp] theorem takeTxAnswer_env_readings (as : List (TxAnswer E)) : (takeTxAnswer as s).env.readings = s.env.readings := rfl

/-! ## takeRxAnswer -/

@[simp] theorem takeRxAnswer_phase (as : List (RxAnswer E)) : (takeRxAnswer as s).phase = s.phase := rfl
@[simp] theorem takeRxAnswer_op (as : List (RxAnswer E)) : (takeRxAnswer as s).op = s.op := rfl
@[simp] theorem takeRxAnswer_init (as : List (RxAnswer E)) : (takeRxAnswer as s).init = s.init := rfl
@[simp] theorem takeRxAnswer_tx (as : List (RxAnswer E)) : (takeRxAnswer as s).tx = s.tx := rfl
@[simp] theorem takeRxAnswer_txidx (as : List (RxAnswer E)) : (takeRxAnswer as s).txidx = s.txidx := rfl
@[simp] theorem takeRxAnswer_rx (as : List (RxAnswer E)) : (takeRxAnswer as s).rx = s.rx := rfl
@[simp] theorem takeRxAnswer_rxcnt (as : List (RxAnswer E)) : (takeRxAnswer as s).rxcnt = s.rxcnt := rfl
@[simp] theorem takeRxAnswer_rsp (as : List (RxAnswer E)) : (takeRxAnswer as s).rsp = s.rsp := rfl
@[simp] theorem takeRxAnswer_env_schedule (as : List (RxAnswer E)) : (takeRxAnswer as s).env.schedule = s.env.schedule := rfl
@[simp] theorem takeRxAnswer_env_host (as : List (RxAnswer E)) : (takeRxAnswer as s).env.host = s.env.host := rfl
@[simp] theorem takeRxAnswer_env_openAns (as : List (RxAnswer E)) : (takeRxAnswer as s).env.openAns = s.env.openAns := rfl
@[simp] theorem takeRxAnswer_env_txAns (as : List (RxAnswer E)) : (takeRxAnswer as s).env.txAns = s.env.txAns := rfl
@[simp] theorem takeRxAnswer_env_rxAns (as : List (RxAnswer E)) : (takeRxAnswer as s).env.rxAns = as := rfl
@[simp] theorem takeRxAnswer_env_sent (as : List (RxAnswer E)) : (takeRxAnswer as s).env.sent = s.env.sent := rfl
@[simp] theorem takeRxAnswer_env_readings (as : List (RxAnswer E)) : (takeRxAnswer as s).env.readings = s.env.readings := rfl

/-! ## Rsp.ofError -/

variable (r : Rsp E) (e : ErrInfo E)

@[simp] theorem ofError_rspValid : (r.ofError e).rspValid = true := by cases e <;> rfl
@[simp] theorem ofError_status : (r.ofError e).status = e.code := by cases e <;> rfl
@[simp] theorem ofError_pmValid : (r.ofError e).pmValid = false := by cases e <;> rfl
@[simp] theorem ofError_pm25Raw : (r.ofError e).pm25Raw = r.pm25Raw := by cases e <;> rfl
@[simp] theorem ofError_pm10Raw : (r.ofError e).pm10Raw = r.pm10Raw := by cases e <;> rfl

@[simp] theorem ofError_terrStage_transport (stage : Stage) (k : E) :
    (r.ofError (.transportError stage k)).terrStage = stage.code := rfl
@[simp] theorem ofError_terr_transport (stage : Stage) (k : E) :
    (r.ofError (.transportError stage k)).terr = k := rfl
@[simp] theorem ofError_terrStage_badChecksum : (r.ofError .badChecksum).terrStage = r.terrStage := rfl
@[simp] theorem ofError_terr_badChecksum : (r.ofError .badChecksum).terr = r.terr := rfl
@[simp] theorem ofError_terrStage_tooLong : (r.ofError .tooLongWorkTime).terrStage = r.terrStage := rfl
@[simp] theorem ofError_terr_tooLong : (r.ofError .tooLongWorkTime).terr = r.terr := rfl

/-! ## txAccepted -/

theorem txAccepted_eq (b : Byte) : txAccepted b s =
    { s with
      txidx := s.txidx + 1
      phase := if s.txidx + 1 = Const.cmdLen then .rx else s.phase
      rxcnt := if s.txidx + 1 = Const.cmdLen then 0 else s.rxcnt
      env := { s.env with sent := s.env.sent ++ [b] } } := by
  unfold txAccepted
  split <;> rfl

end Sys2Proof.Machine
end

