-- ==== Sys2Proof/Laws/Step.lean ====
section
/-! SUPPORT. Inversion lemmas: everything a meaning, a turn and a step can do when they answer a next state. Later proofs
cite these and do not unfold the definitions. -/

namespace Sys2Proof.Machine

variable {E : Type}

/-! ## The meanings -/

/-- A next state of SET_REPORT_MODE: held, waiting for the open outcome, failed at the open, or started. -/
theorem execSetReportMode_next {s t : State E} (h : execSetReportMode s = .next t) :
    (s.phase.busy = true ∧ t = s) ∨
    (s.phase = .unopened ∧ s.env.openAns = [] ∧ t = s) ∨
    (∃ k rest, s.phase = .unopened ∧ s.env.openAns = .failed k :: rest ∧
      t = raise (.transportError .opening k) (beginConstruction rest s)) ∨
    (∃ rest, s.phase = .unopened ∧ s.env.openAns = .ok :: rest ∧
      t = startFrame frameReportMode (beginConstruction rest s)) := by
  unfold execSetReportMode at h
  cases hp : s.phase with
  | unopened =>
    simp only [hp] at h
    cases ha : s.env.openAns with
    | nil =>
      simp only [ha] at h
      injection h with h
      exact .inr (.inl ⟨rfl, rfl, h.symm⟩)
    | cons a rest =>
      cases a with
      | ok =>
        simp only [ha] at h
        injection h with h
        exact .inr (.inr (.inr ⟨rest, rfl, rfl, h.symm⟩))
      | failed k =>
        simp only [ha] at h
        injection h with h
        exact .inr (.inr (.inl ⟨k, rest, rfl, rfl, h.symm⟩))
  | tx | rx =>
    simp only [hp] at h
    injection h with h
    exact .inl ⟨rfl, h.symm⟩
  | ready | failed => simp [hp] at h

/-- A next state of SET_WORK_PERIOD: held, rejected above 30, or started. -/
theorem execSetWorkPeriod_next {m : Byte} {s t : State E} (h : execSetWorkPeriod m s = .next t) :
    (s.phase.busy = true ∧ t = s) ∨
    (s.phase = .ready ∧ legalPeriod m = false ∧ t = raise .tooLongWorkTime (accept s)) ∨
    (s.phase = .ready ∧ legalPeriod m = true ∧
      t = startFrame (frameWorkPeriod m) (beginOrdinary .workPeriod s)) := by
  unfold execSetWorkPeriod at h
  cases hp : s.phase with
  | ready =>
    simp only [hp] at h
    cases hm : legalPeriod m <;> simp only [hm, if_true, Bool.false_eq_true, if_false] at h <;> injection h with h
    · exact .inr (.inl ⟨rfl, rfl, h.symm⟩)
    · exact .inr (.inr ⟨rfl, rfl, h.symm⟩)
  | tx | rx =>
    simp only [hp] at h
    injection h with h
    exact .inl ⟨rfl, h.symm⟩
  | unopened | failed => simp [hp] at h

/-- A next state of QUERY: held, or started. -/
theorem execQuery_next {s t : State E} (h : execQuery s = .next t) :
    (s.phase.busy = true ∧ t = s) ∨
    (s.phase = .ready ∧ t = startFrame frameQuery (beginOrdinary .query s)) := by
  unfold execQuery at h
  cases hp : s.phase with
  | ready =>
    simp only [hp] at h
    injection h with h
    exact .inr ⟨rfl, h.symm⟩
  | tx | rx =>
    simp only [hp] at h
    injection h with h
    exact .inl ⟨rfl, h.symm⟩
  | unopened | failed => simp [hp] at h

theorem execReplyConfirm_eq (r : ReplyFrame) (s : State E) :
    execReplyConfirm r s = .next (if r.valid then respondConfirm s else raise .badChecksum s) := by
  unfold execReplyConfirm
  rw [validate_eq]
  cases r.valid <;> rfl

theorem execReplyMeasurement_eq (r : ReplyFrame) (s : State E) :
    execReplyMeasurement r s =
      .next (if r.valid then respondMeasurement (pm25Of r) (pm10Of r) s else raise .badChecksum s) := by
  unfold execReplyMeasurement
  rw [validate_eq]
  cases r.valid <;> rfl

/-- A command never faults. -/
theorem exec_no_fault (i : Instr) (s : State) (f : Fault) : exec i s ≠ .fault f := by
  cases i with
  | setReportMode =>
    simp only [exec, execSetReportMode]
    split
    · split <;> simp
    all_goals simp
  | query => simp only [exec, execQuery]; split <;> simp
  | setWorkPeriod m =>
    simp only [exec, execSetWorkPeriod]
    split
    · split <;> simp
    all_goals simp
  | replyConfirm r => simp [exec, execReplyConfirm_eq]
  | replyMeasurement r => simp [exec, execReplyMeasurement_eq]

/-! ## Turns -/

/-- The reply the buffer holds, read byte by byte. -/
theorem readReply_ok {s : State E} {r : ReplyFrame} (h : readReply s = .ok r) :
    ∀ j, j < 10 → s.rx.lookup j = r.toBytes[j]? := by
  have step : ∀ {α β : Type} {x : Except Fault α} {f : α → Except Fault β} {b : β},
      (x >>= f) = .ok b → ∃ a, x = .ok a ∧ f a = .ok b := by
    intro α β x f b hx
    cases x with
    | error e => cases hx
    | ok a => exact ⟨a, rfl, hx⟩
  unfold readReply at h
  obtain ⟨b0, h0, h⟩ := step h
  obtain ⟨b1, h1, h⟩ := step h
  obtain ⟨b2, h2, h⟩ := step h
  obtain ⟨b3, h3, h⟩ := step h
  obtain ⟨b4, h4, h⟩ := step h
  obtain ⟨b5, h5, h⟩ := step h
  obtain ⟨b6, h6, h⟩ := step h
  obtain ⟨b7, h7, h⟩ := step h
  obtain ⟨b8, h8, h⟩ := step h
  obtain ⟨b9, h9, h⟩ := step h
  cases h
  rw [readByte_ok] at h0 h1 h2 h3 h4 h5 h6 h7 h8 h9
  intro j hj
  have : j = 0 ∨ j = 1 ∨ j = 2 ∨ j = 3 ∨ j = 4 ∨ j = 5 ∨ j = 6 ∨ j = 7 ∨ j = 8 ∨ j = 9 := by omega
  rcases this with rfl | rfl | rfl | rfl | rfl | rfl | rfl | rfl | rfl | rfl
  exacts [h0.2, h1.2, h2.2, h3.2, h4.2, h5.2, h6.2, h7.2, h8.2, h9.2]

/-- A buffer that lists all ten bytes of a reply is read as that reply. -/
theorem readReply_of {s : State E} {r : ReplyFrame} (h : ∀ j, j < 10 → s.rx.lookup j = r.toBytes[j]?) :
    readReply s = .ok r := by
  have rd : ∀ j (hj : j < 10), readByte .rx j s = .ok (r.toBytes[j]'(by simpa [ReplyFrame.toBytes] using hj)) := by
    intro j hj
    rw [readByte_ok]
    refine ⟨hj, ?_⟩
    simp only [State.buffer, h j hj]
    exact List.getElem?_eq_getElem _
  simp [readReply, rd, ReplyFrame.toBytes]
  rfl

/-- A next state of the TX turn: no answer, the byte accepted, or the write failed. -/
theorem txTurn_next {s t : State E} (h : txTurn s = .next t) :
    ∃ b, readByte .tx s.txidx s = .ok b ∧
      ((s.env.txAns = [] ∧ t = s) ∨
       (∃ rest, s.env.txAns = .accepted :: rest ∧ t = txAccepted b (takeTxAnswer rest s)) ∨
       (∃ k rest, s.env.txAns = .failed k :: rest ∧
         t = raise (.transportError .write k) (takeTxAnswer rest s))) := by
  unfold txTurn at h
  split at h
  · cases h
  · rename_i b hb
    refine ⟨b, hb, ?_⟩
    split at h
    · rename_i ha
      injection h with h
      exact .inl ⟨ha, h.symm⟩
    · rename_i rest ha
      injection h with h
      exact .inr (.inl ⟨rest, ha, h.symm⟩)
    · rename_i k rest ha
      injection h with h
      exact .inr (.inr ⟨k, rest, ha, h.symm⟩)

/-- Everything a step that answers a next state can be. -/
inductive StepCase (s t : State) : Prop where
  /-- No event: no turn is left. -/
  | idle (hs : s.env.schedule = []) (ht : t = s)
  /-- A reset. -/
  | reset (rest : List Turn) (hs : s.env.schedule = .reset :: rest) (ht : t = resetBlock (takeTurn s))
  /-- The host's turn, and it offers no request. -/
  | hostIdle (rest : List Turn) (hs : s.env.schedule = .host :: rest) (hh : s.env.host = []) (ht : t = takeTurn s)
  /-- The host reads `RSP`. -/
  | hostReads (rest : List Turn) (f : RspField) (v : Reading) (hs : s.env.schedule = .read f :: rest)
      (hv : hostRead f (takeTurn s) = .ok v) (ht : t = noteReading f v (takeTurn s))
  /-- The host's turn, and its request is judged. -/
  | request (rest : List Turn) (w : ReqWord) (more : List ReqWord) (i : Instr)
      (hs : s.env.schedule = .host :: rest) (hh : s.env.host = w :: more)
      (hw : decodeRequest w = .ok i) (ht : exec i (takeTurn s) = .next t)
  /-- The transport's turn, and nothing is asked of it. -/
  | transportIdle (rest : List Turn) (hs : s.env.schedule = .transport :: rest) (hp : s.phase.busy = false)
      (ht : t = takeTurn s)
  /-- The transport's turn in phase `TX`. -/
  | tx (rest : List Turn) (hs : s.env.schedule = .transport :: rest) (hp : s.phase = .tx)
      (ht : txTurn (takeTurn s) = .next t)
  /-- The transport's turn in phase `RX`, and it does not answer. -/
  | rxIdle (rest : List Turn) (hs : s.env.schedule = .transport :: rest) (hp : s.phase = .rx)
      (ha : s.env.rxAns = []) (ht : t = takeTurn s)
  /-- The transport's turn in phase `RX`, and the read fails. -/
  | rxFails (rest : List Turn) (k : TErr) (as : List RxAnswer) (hs : s.env.schedule = .transport :: rest)
      (hp : s.phase = .rx) (ha : s.env.rxAns = .failed k :: as)
      (ht : t = raise (.transportError .read k) (takeRxAnswer as (takeTurn s)))
  /-- The transport's turn in phase `RX`: a byte that does not fill the reply. -/
  | rxByte (rest : List Turn) (b : Byte) (as : List RxAnswer) (hs : s.env.schedule = .transport :: rest)
      (hp : s.phase = .rx) (ha : s.env.rxAns = .byte b :: as) (hn : s.rxcnt + 1 < Const.replyLen)
      (ht : t = storeReplyByte b (takeRxAnswer as (takeTurn s)))
  /-- The transport's turn in phase `RX`: the tenth byte, and the reply is executed. -/
  | rxLast (rest : List Turn) (b : Byte) (as : List RxAnswer) (r : ReplyFrame)
      (hs : s.env.schedule = .transport :: rest) (hp : s.phase = .rx) (ha : s.env.rxAns = .byte b :: as)
      (hn : s.rxcnt + 1 = Const.replyLen)
      (hr : readReply (storeReplyByte b (takeRxAnswer as (takeTurn s))) = .ok r)
      (ht : exec (replyInstr s.op r)
        (storeReplyByte b (takeRxAnswer as (takeTurn s))) = .next t)

/-- A step that answers a next state is one of the cases of `StepCase`. -/
theorem step_cases {s t : State} (h : step s = .next t) : StepCase s t := by
  unfold step fetch at h
  cases hs : s.env.schedule with
  | nil =>
    simp only [hs] at h
    injection h with h
    exact .idle hs h.symm
  | cons turn rest =>
    cases turn with
    | reset =>
      simp only [hs] at h
      injection h with h
      exact .reset rest hs h.symm
    | host =>
      simp only [hs, hostTurn, takeTurn_env_host] at h
      cases hh : s.env.host with
      | nil =>
        simp only [hh] at h
        injection h with h
        exact .hostIdle rest hs hh h.symm
      | cons w more =>
        simp only [hh, judge] at h
        cases hw : decodeRequest w with
        | error e => simp [hw] at h
        | ok i =>
          simp only [hw] at h
          exact .request rest w more i hs hh hw h
    | read f =>
      simp only [hs, readTurn] at h
      cases hv : hostRead f (takeTurn s) with
      | error e => simp [hv] at h
      | ok v =>
        simp only [hv] at h
        injection h with h
        exact .hostReads rest f v hs hv h.symm
    | transport =>
      simp only [hs, transportTurn, takeTurn_phase] at h
      cases hp : s.phase with
      | unopened | ready | failed =>
        simp only [hp] at h
        injection h with h
        exact .transportIdle rest hs (by rw [hp]; rfl) h.symm
      | tx =>
        simp only [hp] at h
        exact .tx rest hs hp h
      | rx =>
        simp only [hp, rxTurn, takeTurn_env_rxAns] at h
        cases ha : s.env.rxAns with
        | nil =>
          simp only [ha] at h
          injection h with h
          exact .rxIdle rest hs hp ha h.symm
        | cons a as =>
          cases a with
          | failed k =>
            simp only [ha] at h
            injection h with h
            exact .rxFails rest k as hs hp ha h.symm
          | byte b =>
            simp only [ha, capture, takeRxAnswer_rxcnt, takeTurn_rxcnt] at h
            by_cases hn : s.rxcnt < Const.replyLen
            · simp only [hn, if_true] at h
              by_cases hl : s.rxcnt + 1 = Const.replyLen
              · simp only [hl, if_true, fetchReply] at h
                split at h
                · rename_i i u hf
                  split at hf
                  · cases hf
                  · rename_i r hr
                    cases hf
                    exact .rxLast rest b as r hs hp ha hl hr h
                · rename_i o hf
                  split at hf
                  · cases hf
                    cases h
                  · cases hf
              · simp only [hl, if_false] at h
                injection h with h
                exact .rxByte rest b as hs hp ha (by omega) h.symm
            · simp [hn] at h

end Sys2Proof.Machine
end

