-- ==== Sys2Proof/Laws/StepEvent.lean ====
section
/-! SUPPORT. The cases of a step with the instruction it runs worked out: each event of the block, the condition under
which it happens, and the one update it makes. -/

namespace Sys2Proof.Machine

/-- A reply executed under `op` raises BAD_CHECKSUM, or ends well with the response of its kind. -/
theorem exec_replyInstr (op : Op) (r : ReplyFrame) (s : State) :
    exec (replyInstr op r) s = .next
      (if r.valid then (if op = .query then respondMeasurement (pm25Of r) (pm10Of r) s else respondConfirm s)
       else raise .badChecksum s) := by
  cases op <;> simp [replyInstr, exec, execReplyConfirm_eq, execReplyMeasurement_eq]

/-- Which instruction a request word selects, by its code. -/
theorem decodeRequest_ok {w : ReqWord} {i : Instr} (h : decodeRequest w = .ok i) :
    (w.reqOp = 0b00 ∧ i = .setReportMode) ∨ (w.reqOp = 0b01 ∧ i = .setWorkPeriod w.reqArg) ∨
      (w.reqOp = 0b10 ∧ i = .query) := by
  unfold decodeRequest at h
  split at h
  · cases h; exact .inl ⟨‹_›, rfl⟩
  · split at h
    · cases h; exact .inr (.inl ⟨‹_›, rfl⟩)
    · split at h
      · cases h; exact .inr (.inr ⟨‹_›, rfl⟩)
      · cases h

/-- The event of a step that answers a next state. -/
inductive StepEvent (s t : State) : Prop where
  /-- Nothing of the block changes: no turn is left, an agent does nothing, or a request is held. -/
  | none (ts : List Turn) (ht : t = s.withSchedule ts) (hs : s.env.schedule.head? ≠ some .reset)
  /-- A reset. -/
  | reset (ts : List Turn) (hs : s.env.schedule = .reset :: ts) (ht : t = resetBlock (takeTurn s))
  /-- The host reads `RSP`. -/
  | hostReads (ts : List Turn) (f : RspField) (v : Reading) (hs : s.env.schedule = .read f :: ts)
      (ht : t = noteReading f v (takeTurn s))
  /-- OPEN, and the transport does not open. -/
  | openFails (ts : List Turn) (w : ReqWord) (more : List ReqWord) (k : TErr) (as : List OpenAnswer)
      (hs : s.env.schedule = .host :: ts) (hh : s.env.host = w :: more) (hw : w.reqOp = 0b00)
      (hp : s.phase = .unopened) (ha : s.env.openAns = .failed k :: as)
      (ht : t = raise (.transportError .opening k) (beginConstruction as (takeTurn s)))
  /-- OPEN, and the construction starts. -/
  | opens (ts : List Turn) (w : ReqWord) (more : List ReqWord) (as : List OpenAnswer)
      (hs : s.env.schedule = .host :: ts) (hh : s.env.host = w :: more) (hw : w.reqOp = 0b00)
      (hp : s.phase = .unopened) (ha : s.env.openAns = .ok :: as)
      (ht : t = startFrame frameReportMode (beginConstruction as (takeTurn s)))
  /-- SET_WORK_PERIOD with a period that is too long. -/
  | tooLong (ts : List Turn) (w : ReqWord) (more : List ReqWord) (hs : s.env.schedule = .host :: ts)
      (hh : s.env.host = w :: more) (hw : w.reqOp = 0b01) (hp : s.phase = .ready)
      (hl : legalPeriod w.reqArg = false) (ht : t = raise .tooLongWorkTime (accept (takeTurn s)))
  /-- SET_WORK_PERIOD starts. -/
  | setsWorkPeriod (ts : List Turn) (w : ReqWord) (more : List ReqWord) (hs : s.env.schedule = .host :: ts)
      (hh : s.env.host = w :: more) (hw : w.reqOp = 0b01) (hp : s.phase = .ready)
      (hl : legalPeriod w.reqArg = true)
      (ht : t = startFrame (frameWorkPeriod w.reqArg) (beginOrdinary .workPeriod (takeTurn s)))
  /-- QUERY starts. -/
  | queries (ts : List Turn) (w : ReqWord) (more : List ReqWord) (hs : s.env.schedule = .host :: ts)
      (hh : s.env.host = w :: more) (hw : w.reqOp = 0b10) (hp : s.phase = .ready)
      (ht : t = startFrame frameQuery (beginOrdinary .query (takeTurn s)))
  /-- A command byte accepted. -/
  | txAccepted (ts : List Turn) (b : Byte) (as : List TxAnswer) (hs : s.env.schedule = .transport :: ts)
      (hp : s.phase = .tx) (hb : readByte .tx s.txidx s = .ok b) (ha : s.env.txAns = .accepted :: as)
      (ht : t = Machine.txAccepted b (takeTxAnswer as (takeTurn s)))
  /-- A failed write. -/
  | txFails (ts : List Turn) (b : Byte) (k : TErr) (as : List TxAnswer) (hs : s.env.schedule = .transport :: ts)
      (hp : s.phase = .tx) (hb : readByte .tx s.txidx s = .ok b) (ha : s.env.txAns = .failed k :: as)
      (ht : t = raise (.transportError .write k) (takeTxAnswer as (takeTurn s)))
  /-- A failed read. -/
  | rxFails (ts : List Turn) (k : TErr) (as : List RxAnswer) (hs : s.env.schedule = .transport :: ts)
      (hp : s.phase = .rx) (ha : s.env.rxAns = .failed k :: as)
      (ht : t = raise (.transportError .read k) (takeRxAnswer as (takeTurn s)))
  /-- A reply byte that is not the tenth. -/
  | rxByte (ts : List Turn) (b : Byte) (as : List RxAnswer) (hs : s.env.schedule = .transport :: ts)
      (hp : s.phase = .rx) (ha : s.env.rxAns = .byte b :: as) (hn : s.rxcnt + 1 < Const.replyLen)
      (ht : t = storeReplyByte b (takeRxAnswer as (takeTurn s)))
  /-- The tenth byte of a reply with a wrong checksum. -/
  | badChecksum (ts : List Turn) (b : Byte) (as : List RxAnswer) (hs : s.env.schedule = .transport :: ts)
      (hp : s.phase = .rx) (ha : s.env.rxAns = .byte b :: as) (hn : s.rxcnt + 1 = Const.replyLen)
      (ht : t = raise .badChecksum (storeReplyByte b (takeRxAnswer as (takeTurn s))))
  /-- The tenth byte of a valid confirmation. -/
  | confirms (ts : List Turn) (b : Byte) (as : List RxAnswer) (hs : s.env.schedule = .transport :: ts)
      (hp : s.phase = .rx) (ha : s.env.rxAns = .byte b :: as) (hn : s.rxcnt + 1 = Const.replyLen)
      (ho : s.op ≠ .query) (ht : t = respondConfirm (storeReplyByte b (takeRxAnswer as (takeTurn s))))
  /-- The tenth byte of a valid measurement. -/
  | measures (ts : List Turn) (b : Byte) (as : List RxAnswer) (r : ReplyFrame)
      (hs : s.env.schedule = .transport :: ts) (hp : s.phase = .rx) (ha : s.env.rxAns = .byte b :: as)
      (hn : s.rxcnt + 1 = Const.replyLen) (ho : s.op = .query)
      (hr : readReply (storeReplyByte b (takeRxAnswer as (takeTurn s))) = .ok r) (hv : r.valid = true)
      (ht : t = respondMeasurement (pm25Of r) (pm10Of r) (storeReplyByte b (takeRxAnswer as (takeTurn s))))

/-- Taking the turn is dropping it from the schedule. -/
theorem takeTurn_eq_withSchedule (s : State) : takeTurn s = s.withSchedule s.env.schedule.tail := rfl

/-- A step that answers a next state is one of the events of `StepEvent`. -/
theorem step_event {s t : State} (h : step s = .next t) : StepEvent s t := by
  cases step_cases h with
  | idle hs ht => exact .none s.env.schedule ht (by simp [hs])
  | reset ts hs ht => exact .reset ts hs ht
  | hostIdle ts hs _ ht => exact .none _ (ht.trans (takeTurn_eq_withSchedule s)) (by simp [hs])
  | hostReads ts f v hs _ ht => exact .hostReads ts f v hs ht
  | transportIdle ts hs _ ht => exact .none _ (ht.trans (takeTurn_eq_withSchedule s)) (by simp [hs])
  | rxIdle ts hs _ _ ht => exact .none _ (ht.trans (takeTurn_eq_withSchedule s)) (by simp [hs])
  | rxFails ts k as hs hp ha ht => exact .rxFails ts k as hs hp ha ht
  | rxByte ts b as hs hp ha hn ht => exact .rxByte ts b as hs hp ha hn ht
  | request ts w more i hs hh hw he =>
    have hold : t = takeTurn s → StepEvent s t := fun ht =>
      .none _ (ht.trans (takeTurn_eq_withSchedule s)) (by simp [hs])
    obtain ⟨hr, rfl⟩ | ⟨hr, rfl⟩ | ⟨hr, rfl⟩ := decodeRequest_ok hw
    · obtain ⟨_, ht⟩ | ⟨_, _, ht⟩ | ⟨k, as, hp, ha, ht⟩ | ⟨as, hp, ha, ht⟩ := execSetReportMode_next he
      · exact hold ht
      · exact hold ht
      · exact .openFails ts w more k as hs hh hr hp ha ht
      · exact .opens ts w more as hs hh hr hp ha ht
    · obtain ⟨_, ht⟩ | ⟨hp, hl, ht⟩ | ⟨hp, hl, ht⟩ := execSetWorkPeriod_next he
      · exact hold ht
      · exact .tooLong ts w more hs hh hr hp hl ht
      · exact .setsWorkPeriod ts w more hs hh hr hp hl ht
    · obtain ⟨_, ht⟩ | ⟨hp, ht⟩ := execQuery_next he
      · exact hold ht
      · exact .queries ts w more hs hh hr hp ht
  | tx ts hs hp htx =>
    obtain ⟨b, hb, ⟨_, ht⟩ | ⟨as, ha, ht⟩ | ⟨k, as, ha, ht⟩⟩ := txTurn_next htx
    · exact .none _ (ht.trans (takeTurn_eq_withSchedule s)) (by simp [hs])
    · exact .txAccepted ts b as hs hp (by rw [← hb]; exact readByte_congr rfl) ha ht
    · exact .txFails ts b k as hs hp (by rw [← hb]; exact readByte_congr rfl) ha ht
  | rxLast ts b as r hs hp ha hn hr he =>
    rw [exec_replyInstr] at he
    injection he with he
    subst he
    split
    · split
      · exact .measures ts b as r hs hp ha hn ‹_› hr ‹_› rfl
      · exact .confirms ts b as hs hp ha hn ‹_› rfl
    · exact .badChecksum ts b as hs hp ha hn rfl

end Sys2Proof.Machine
end

