-- ==== Sys2Proof/Machine/Program.lean ====
section
/-! DEFINITION. The host programs of R88: their text, read line by line, and the requests, transport answers and
schedule a program stands for. -/

namespace Sys2Proof.Machine

/-! ## Lines -/

/-- R88: what a line says of the transport's answers to the command bytes. -/
inductive TxNote where
  | absent
  | ok
  | failAt (j : Nat)
  deriving DecidableEq, Repr

/-- R88: what a line says of the transport's answers to the reply bytes: the bytes, and whether a failure follows. -/
inductive RxNote where
  | absent
  | bytes (bs : List Byte) (fails : Bool)
  deriving DecidableEq, Repr

/-- R88: one line: a request with its annotations. `reset` is no request (95_test_vectors.md, P4). -/
inductive Line where
  | request (w : ReqWord) (openFails : Bool) (tx : TxNote) (rx : RxNote)
  | reset
  deriving DecidableEq, Repr

/-! ## Reading the text -/

/-- The pieces of a text between the characters `c`. -/
def splitAtChar (c : Char) : List Char → List (List Char)
  | [] => [[]]
  | x :: xs =>
    match splitAtChar c xs with
    | [] => [[x]]
    | seg :: segs => if x = c then [] :: seg :: segs else (x :: seg) :: segs

/-- The words of a text. -/
def wordsOf (text : List Char) : List (List Char) := (splitAtChar ' ' text).filter (· ≠ [])

/-- The value of a digit of the given base. -/
def digitOf (base : Nat) (c : Char) : Option Nat :=
  let n := c.toNat
  let d := if 48 ≤ n ∧ n ≤ 57 then n - 48 else if 65 ≤ n ∧ n ≤ 70 then n - 55 else if 97 ≤ n ∧ n ≤ 102 then n - 87 else 16
  if d < base then some d else none

/-- The value of a digit string read on from `acc`. -/
def digitsFrom (base : Nat) : Nat → List Char → Option Nat
  | acc, [] => some acc
  | acc, c :: cs =>
    match digitOf base c with
    | some d => digitsFrom base (acc * base + d) cs
    | none => none

/-- A non-empty digit string. -/
def numberIn (base : Nat) : List Char → Option Nat
  | [] => none
  | c :: cs => digitsFrom base 0 (c :: cs)

/-- R88: a decimal or `0x` hexadecimal number 0..255. -/
def byteNumber (text : List Char) : Option Byte :=
  let n :=
    match text with
    | '0' :: 'x' :: ds => numberIn 16 ds
    | ds => numberIn 10 ds
  match n with
  | some n => if n < 256 then some (BitVec.ofNat 8 n) else none
  | none => none

/-- A byte of two hexadecimal digits. -/
def hexByte : List Char → Option Byte
  | [a, b] => (numberIn 16 [a, b]).map (BitVec.ofNat 8)
  | _ => none

/-- R88: `fail@j`. -/
def failIndex : List Char → Option Nat
  | 'f' :: 'a' :: 'i' :: 'l' :: '@' :: ds => numberIn 10 ds
  | _ => none

/-- R88: the answers of an `rx` annotation: ten bytes, or `j` bytes and `fail@j` with `j` at most 9. -/
def rxNoteFrom : List Byte → List (List Char) → Option RxNote
  | got, [] => if got.length = Const.replyLen then some (.bytes got false) else none
  | got, w :: ws =>
    match hexByte w with
    | some b => rxNoteFrom (got ++ [b]) ws
    | none =>
      if ws = [] ∧ failIndex w = some got.length ∧ got.length < Const.replyLen then some (.bytes got true) else none

/-- R88: the answers of a `tx` annotation: `ok`, or `fail@j` with `j` at most 18. -/
def txNoteOf : List (List Char) → Option TxNote
  | [w] =>
    if w = ['o', 'k'] then some .ok
    else
      match failIndex w with
      | some j => if j < Const.cmdLen then some (.failAt j) else none
      | none => none
  | _ => none

/-- R88: the request of a line. -/
def requestOf (ws : List (List Char)) : Option ReqWord :=
  match ws with
  | [name] =>
    if name = ['o', 'p', 'e', 'n'] then some ⟨0b00, 0⟩
    else if name = ['q', 'u', 'e', 'r', 'y'] then some ⟨0b10, 0⟩
    else none
  | [name, arg] =>
    if name = ['s', 'e', 't', '_', 'w', 'o', 'r', 'k', '_', 'p', 'e', 'r', 'i', 'o', 'd'] then
      (byteNumber arg).map fun m => ⟨0b01, m⟩
    else none
  | _ => none

/-- R88: one annotation added to a line, in the order the annotations may come: `open fail`, `tx`, `rx`. -/
def annotate (line : Line) (ws : List (List Char)) : Option Line :=
  match line, ws with
  | .request w false .absent .absent, [['o', 'p', 'e', 'n'], ['f', 'a', 'i', 'l']] =>
    if w.reqOp = 0b00#2 then some (.request w true .absent .absent) else none
  | .request w false .absent .absent, ['t', 'x'] :: rest =>
    (txNoteOf rest).map fun note => .request w false note .absent
  | .request w false .ok .absent, ['r', 'x'] :: rest =>
    (rxNoteFrom [] rest).map fun note => .request w false .ok note
  | _, _ => none

/-- The annotations of a line, one after the other. -/
def annotateAll : Line → List (List (List Char)) → Option Line
  | line, [] => some line
  | line, ws :: rest =>
    match annotate line ws with
    | some line => annotateAll line rest
    | none => none

/-- R88: one line of a program. -/
def readLine (text : List Char) : Option Line :=
  match (splitAtChar ';' text).map wordsOf with
  | [[['r', 'e', 's', 'e', 't']]] => some .reset
  | first :: notes =>
    match requestOf first with
    | some w => annotateAll (.request w false .absent .absent) notes
    | none => none
  | [] => none

/-! ## What a program stands for -/

/-- The answers to `TxSend` a note stands for; `k` is the failure value written `k`. -/
def TxNote.answers {E : Type} (k : E) : TxNote → List (TxAnswer E)
  | .absent => []
  | .ok => List.replicate Const.cmdLen .accepted
  | .failAt j => List.replicate j .accepted ++ [.failed k]

/-- The answers to `RxRecv` a note stands for. -/
def RxNote.answers {E : Type} (k : E) : RxNote → List (RxAnswer E)
  | .absent => []
  | .bytes bs fails => bs.map .byte ++ if fails then [.failed k] else []

/-- R88: the open outcome is `Ok` where the line says nothing. -/
def openAnswers {E : Type} (k : E) (w : ReqWord) (openFails : Bool) : List (OpenAnswer E) :=
  if w.reqOp = 0b00#2 then [if openFails then .failed k else .ok] else []

/-- One line added to what the environment will do: the host offers the request, then the transport gives each answer
of the line in its turn. -/
def Line.addTo {E : Type} (k : E) (e : Env E) : Line → Env E
  | .reset => { e with schedule := e.schedule ++ [.reset] }
  | .request w openFails tx rx =>
    { e with
      schedule := e.schedule ++ .host :: List.replicate ((tx.answers k).length + (rx.answers k).length) .transport
      host := e.host ++ [w]
      openAns := e.openAns ++ openAnswers k w openFails
      txAns := e.txAns ++ tx.answers k
      rxAns := e.rxAns ++ rx.answers k }

/-- A program placed in the environment of a state: how a program comes to run from `State.reset` (log entry 9). -/
def State.withProgram {E : Type} (k : E) (program : List Line) (s : State E) : State E :=
  { s with env := program.foldl (Line.addTo k) s.env }

end Sys2Proof.Machine
end

