-- ==== Sys2Proof/Tests/Slice0.lean ====
section
/-! SUPPORT. Tests of the model against the spec's own words and vectors (each names its place in spec/),
  and for every
statement with hypotheses a named witness that they hold together somewhere. -/

namespace Sys2Proof.Tests

open Sys2Proof.Machine

/-! ## Helpers -/

/-- The state a step answers, if it answers one. -/
def nextOf : Host.Outcome State Fault Refusal → Option State
  | .next s => some s
  | .fault _ => none
  | .refused _ => none

/-- The refusal a step answers, if it answers one. -/
def refusalOf : Host.Outcome State Fault Refusal → Option Refusal
  | .next _ => none
  | .fault _ => none
  | .refused r => some r

/-- The fault a step answers, if it answers one. -/
def faultOf : Host.Outcome State Fault Refusal → Option Fault
  | .next _ => none
  | .fault f => some f
  | .refused _ => none

/-- A failure value. -/
def k : TErr := ⟨['k']⟩

/-- A valid measurement (95_test_vectors.md S6): raw 100 and 200. -/
def m100 : ReplyFrame := ⟨0xAA, 0xC0, 0x64, 0x00, 0xC8, 0x00, 0x00, 0x00, 0x2C, 0xAB⟩
/-- The same measurement with bytes 6 and 7 not zero (S6). -/
def m100xy : ReplyFrame := ⟨0xAA, 0xC0, 0x64, 0x00, 0xC8, 0x00, 0x12, 0x34, 0x72, 0xAB⟩
/-- The same measurement with a wrong checksum (S7). -/
def mBad : ReplyFrame := ⟨0xAA, 0xC0, 0x64, 0x00, 0xC8, 0x00, 0x00, 0x00, 0x2D, 0xAB⟩
/-- A valid confirmation of a work period of 5 (R127). -/
def c5 : ReplyFrame := ⟨0xAA, 0xC5, 0x08, 0x01, 0x05, 0x00, 0x00, 0x00, 0x0E, 0xAB⟩

/-- A state at reset values but for its phase, with the turns given. -/
def at' (p : Phase) (ts : List Turn) : State :=
  { State.reset with phase := p, env := { Env.quiet with schedule := ts } }

/-- The host offers a request in a phase, and the transport will open. -/
def offered (p : Phase) (w : ReqWord) : State :=
  { State.reset with
    phase := p
    env := { Env.quiet with schedule := [.host], host := [w], openAns := [.ok] } }

/-- The host reads a field in a phase, while it offers QUERY. -/
def reading (p : Phase) (r : Rsp) (f : RspField) : State :=
  { State.reset with phase := p, rsp := r, env := { Env.quiet with schedule := [.read f], host := [⟨0b10, 0⟩] } }

/-- A QUERY transaction that has `i` command bytes accepted, with the transport's next answers. -/
def sending (i : Nat) (ts : List Turn) (ta : List TxAnswer) (ra : List RxAnswer) : State :=
  { State.reset with
    phase := .tx
    op := .query
    tx := Memory.ofBytes (encode .query)
    txidx := i
    env := { Env.quiet with schedule := ts, txAns := ta, rxAns := ra } }

/-- A QUERY transaction that has `n` bytes of the reply `r` received, with the transport's next answers. -/
def receiving (n : Nat) (r : ReplyFrame) (ra : List RxAnswer) : State :=
  { State.reset with
    phase := .rx
    op := .query
    tx := Memory.ofBytes (encode .query)
    txidx := 19
    rx := Memory.ofBytes (r.toBytes.take n)
    rxcnt := n
    env := { Env.quiet with schedule := [.transport], rxAns := ra } }

/-! ## WellFormed -/

/-- R73: 30 is the last legal period, and 31 is never encoded. -/
theorem test_wf_limit : (Instr.setWorkPeriod 30).wf = true ∧ (Instr.setWorkPeriod 31).wf = false := by decide

/-- The check refuses every value above the limit, and the encoding of one does not decode (R87). -/
theorem test_wf_refuses_255 :
    (Instr.setWorkPeriod 255).wf = false ∧
      (decodeCommand (encode (.setWorkPeriod 31))).toOption = none := by decide

/-! ## Decode: words written out from the encodings of the spec -/

/-- R105's example, as the opcode table numbers its bits. -/
theorem test_decode_setReportMode :
    decodeTableWord 152 0xAB02FFFF00000000000000000000010102B4AA = some .setReportMode := by decide

/-- R106's example. -/
theorem test_decode_query :
    decodeTableWord 152 0xAB02FFFF00000000000000000000000004B4AA = some .query := by decide

/-- R107's example, `m = 1`; R110: another checksum is no frame. -/
theorem test_decode_setWorkPeriod :
    decodeTableWord 152 0xAB08FFFF00000000000000000000010108B4AA = some (.setWorkPeriod 1) ∧
      decodeTableWord 152 0xAB00FFFF00000000000000000000010108B4AA = none := by decide

/-- 95_test_vectors.md S3: the whole checksum table, byte 17 for `m` from 0 to 30. -/
theorem test_work_period_checksums :
    (List.range 31).map (fun m => (frameWorkPeriod (BitVec.ofNat 8 m)).getD 17 0) =
      [0x07, 0x08, 0x09, 0x0A, 0x0B, 0x0C, 0x0D, 0x0E, 0x0F, 0x10, 0x11, 0x12, 0x13, 0x14, 0x15, 0x16,
       0x17, 0x18, 0x19, 0x1A, 0x1B, 0x1C, 0x1D, 0x1E, 0x1F, 0x20, 0x21, 0x22, 0x23, 0x24, 0x25] := by decide

/-- R127's example as a table word: a bare reply is read as a confirmation (log entry 10). -/
theorem test_decode_replyConfirm :
    decodeTableWord 80 0xAB0E000000050108C5AA = some (.replyConfirm c5) := by decide

/-- R128's example, read under QUERY (R83). -/
theorem test_decode_replyMeasurement :
    (decode .query [0xAA, 0xC0, 0x64, 0x00, 0xC8, 0x00, 0x00, 0x00, 0x2C, 0xAB]).toOption =
      some (.replyMeasurement m100) := by decide

/-- R86: no other length is a frame. -/
theorem test_decode_lengths :
    (decode .query []).toOption = none ∧ (decode .query (List.replicate 11 0)).toOption = none := by decide

/-- R84: the four request codes. -/
theorem test_decode_requests :
    (decodeRequest ⟨0b00, 0x55⟩).toOption = some .setReportMode ∧
      (decodeRequest ⟨0b01, 0xFF⟩).toOption = some (.setWorkPeriod 0xFF) ∧
      (decodeRequest ⟨0b10, 0x55⟩).toOption = some .query ∧ (decodeRequest ⟨0b11, 0⟩).toOption = none := by decide

/-- 95_test_vectors.md 2.1: fifteen 0xFF bytes give 0xF1. -/
theorem test_sum8_wraps : sum8 (List.replicate 15 0xFF) = 0xF1 := by decide

/-! ## One step of each instruction -/

/-- R141: OPEN in `UNOPENED`. -/
theorem test_open_starts :
    (nextOf (step (offered .unopened ⟨0b00, 0⟩))).map
        (fun t => (t.phase, t.init, t.txidx, t.tx.lookup 3, t.tx.lookup 17)) =
      some (.tx, true, 0, some 0x01, some 0x02) := by decide

/-- R143, R145: OPEN in `READY` is refused. -/
theorem test_open_refused_in_ready :
    refusalOf (step (offered .ready ⟨0b00, 0⟩)) = some (.wrongPhase .ready) := by decide

/-- R151: QUERY in `READY`. -/
theorem test_query_starts :
    (nextOf (step (offered .ready ⟨0b10, 0x77⟩))).map (fun t => (t.phase, t.op, t.tx.lookup 2, t.tx.lookup 17)) =
      some (.tx, .query, some 0x04, some 0x02) := by decide

/-- R145: QUERY in a busy phase is held. -/
theorem test_query_held :
    (nextOf (step (offered .rx ⟨0b10, 0⟩))).map (fun t => (t.phase, t.env.host)) =
      some (.rx, [⟨0b10, 0⟩]) := by decide

/-- 95_test_vectors.md P2 line 3: a period of 30 is sent with checksum 0x25. -/
theorem test_work_period_30 :
    (nextOf (step (offered .ready ⟨0b01, 30⟩))).map (fun t => (t.phase, t.tx.lookup 4, t.tx.lookup 17)) =
      some (.tx, some 0x1E, some 0x25) := by decide

/-- P2 line 2: a period of 31 is rejected in the accepting step. -/
theorem test_work_period_31 :
    (nextOf (step (offered .ready ⟨0b01, 31⟩))).map
        (fun t => (t.phase, t.tx, t.rsp.status, t.rsp.pmValid, t.rsp.rspValid)) =
      some (.ready, [], 1, false, true) := by decide

/-- R127: a confirmation after the work period. -/
theorem test_confirm :
    (nextOf (exec (.replyConfirm c5) (receiving 10 c5 []))).map (fun t => (t.phase, t.rsp.status, t.rsp.pmValid)) =
      some (.ready, 0, false) := by decide

/-- P4 line 2: the construction with a wrong checksum ends in `FAILED`. -/
theorem test_confirm_bad_in_construction :
    (nextOf (exec (.replyConfirm mBad) { receiving 10 mBad [] with init := true })).map
        (fun t => (t.phase, t.rsp.status, t.init)) = some (.failed, 3, false) := by decide

/-- R128's example through the step that receives the tenth byte. -/
theorem test_measurement :
    (nextOf (step (receiving 9 m100 [.byte 0xAB]))).map
        (fun t => (t.phase, t.rxcnt, t.rsp.status, t.rsp.pmValid, t.rsp.pm25Raw, t.rsp.pm10Raw)) =
      some (.ready, 10, 0, true, 100, 200) := by decide

/-- S8: 1236 and 2618, low byte first. -/
theorem test_measurement_bytes :
    (nextOf (exec (.replyMeasurement ⟨0xAA, 0xC0, 0xD4, 0x04, 0x3A, 0x0A, 0xA1, 0x60, 0x1D, 0xAB⟩)
        (receiving 10 m100 []))).map (fun t => (t.rsp.pm25Raw, t.rsp.pm10Raw)) = some (1236, 2618) := by decide

/-! ## Transport, host and reset -/

/-- R146: the 19th byte leaves for `RX`. -/
theorem test_last_command_byte :
    (nextOf (step (sending 18 [.transport] [.accepted] []))).map (fun t => (t.phase, t.txidx, t.rxcnt, t.env.sent)) =
      some (.rx, 19, 0, [0xAB]) := by decide

/-- R147: a failed write is stage 1. -/
theorem test_failed_write :
    (nextOf (step (sending 7 [.transport] [.failed k] []))).map
        (fun t => (t.phase, t.txidx, t.rsp.status, t.rsp.terrStage, t.rsp.terr)) =
      some (.ready, 7, 4, 1, k) := by decide

/-- S9: nine bytes whose checksum would hold are not a reply. -/
theorem test_failed_read :
    (nextOf (step (receiving 9 m100 [.failed k]))).map (fun t => (t.phase, t.rsp.status, t.rsp.terrStage)) =
      some (.ready, 4, 2) := by decide

/-- R152: the PM fields after a rejection are no readable value. -/
theorem test_host_read_faults :
    faultOf (step (reading .ready { Rsp.reset with rspValid := true, status := 1 } .pm25Raw)) =
      some (.hostRead .pm25Raw) := by decide

/-- R209: a host that offers a request, held in a busy phase, and reads `RSP` reads no value. -/
theorem test_read_while_held_faults :
    faultOf (step (reading .rx Rsp.reset .status)) = some (.hostRead .status) ∧
      (nextOf (step (reading .rx Rsp.reset .rspValid))).map (fun t => t.env.readings) =
        some [(.rspValid, .flag false)] := by decide

/-- U9: a reserved status is no readable value. -/
theorem test_reserved_status_faults :
    faultOf (step (reading .ready { Rsp.reset with rspValid := true, status := 5 } .status)) =
      some (.reservedStatus 5) := by decide

/-- R32: an unwritten byte is no value. -/
theorem test_unwritten_byte :
    faultOf (step (at' .tx [.transport])) = some (.unwrittenByte .tx 0) := by decide

/-- R200. -/
theorem test_reset : nextOf (step { receiving 5 m100 [.byte 1] with env := { Env.quiet with schedule :=
  [.reset] } }) =
    some .reset := by decide

/-- R27: status 4, stage 2, response valid: 0b1010100; PM2.5 at bit 8. -/
theorem test_packed :
    ({ rspValid := true, status := 4, terrStage := 2, terr := k, pmValid := false, pm25Raw := 1, pm10Raw := 2 } :
      Rsp).packed = 0x0002000154 := by decide

/-! ## A program from reset (R88) -/

/-- P5's first line, read from its text. -/
theorem test_readLine :
    readLine "open ; tx ok ; rx AA C5 02 01 01 00 00 00 04 AB".toList =
      some (.request ⟨0b00, 0⟩ false .ok
        (.bytes [0xAA, 0xC5, 0x02, 0x01, 0x01, 0x00, 0x00, 0x00, 0x04, 0xAB] false)) := by decide

/-- R88: other lines, and lines that are none. -/
theorem test_readLine_others :
    readLine "set_work_period 0x1E ; tx fail@7".toList = some (.request ⟨0b01, 0x1E⟩ false (.failAt 7) .absent) ∧
      readLine "query ; tx ok ; rx AA C0 64 fail@3".toList =
        some (.request ⟨0b10, 0⟩ false .ok (.bytes [0xAA, 0xC0, 0x64] true)) ∧
      readLine "open ; open fail".toList = some (.request ⟨0b00, 0⟩ true .absent .absent) ∧
      readLine "set_work_period 256".toList = none ∧ readLine "query ; tx fail@19".toList = none ∧
      readLine "sleep".toList = none := by decide

/-- P4 line 7, run from reset: a failed open, with no transport byte, ends in `FAILED`. -/
theorem test_program_from_reset :
    (nextOf (run 1 (State.reset.withProgram k [.request ⟨0b00, 0⟩ true .absent .absent]))).map
        (fun t => (t.phase, t.rsp.status, t.rsp.terrStage, t.rsp.terr, t.env.sent)) =
      some (.failed, 4, 0, k, []) := by decide

/-! ## Placed words -/

/-- A placed word is run by the very next step after reset. -/
theorem test_placed_words :
    (nextOf (step (State.reset.withFetchWord 152 0xAB08FFFF00000000000000000000010108B4AA))).map
        (fun t => (t.phase, t.tx.lookup 4)) = some (.tx, some 1) ∧
      (nextOf (step (State.reset.withFetchWord 80 0xAB0E000000050108C5AA))).map
        (fun t => (t.phase, t.rsp.status)) = some (.ready, 0) ∧
      refusalOf (step (State.reset.withFetchWord 152 0)) = some .reservedRequest := by decide

/-! ## Witnesses: the hypotheses of every statement that has some hold together somewhere -/

theorem witness_DecodeInvertsEncode :
    ((Instr.setWorkPeriod 30).wf = true) ∧ (∃ (r : ReplyFrame), (Instr.replyConfirm r).wf = true ∧
      Op.workPeriod ≠ .query) ∧
      ∃ (r : ReplyFrame), (Instr.replyMeasurement r).wf = true := ⟨rfl, ⟨c5, rfl, by decide⟩, ⟨m100, rfl⟩⟩

theorem witness_EncodeInvertsDecode :
    decode .query m100.toBytes = .ok (.replyMeasurement m100) ∧
      decode .query (encode (.setWorkPeriod 30)) = .ok (.setWorkPeriod 30) := ⟨rfl, rfl⟩

theorem witness_CommandFrameRecognised :
    (encode .query).length = 19 ∧ (encode (.setWorkPeriod 30)).length = 19 ∧
      (encode (.setWorkPeriod 31)).length = 19 := by decide

theorem witness_OpcodeByteTellsCommand :
    decodeCommand (encode .setReportMode) = .ok .setReportMode ∧ decodeCommand (encode .query) = .ok .query ∧
      decodeCommand (encode (.setWorkPeriod 0)) = .ok (.setWorkPeriod 0) := ⟨rfl, rfl, rfl⟩

theorem witness_BuilderLaysOutEveryBody : (List.replicate 13 (0xFF : Byte)).length = 13 := by decide

theorem witness_BuiltFramesMeetTheInvariant :
    ∃ (F : List Byte) (m : Byte), (m : Byte).toNat ≤ 30 ∧ m.toNat = 30 ∧ F = frameWorkPeriod m := ⟨_, 30,
      by decide, by decide, rfl⟩

theorem witness_WorkPeriodChecksumClosedForm : (0 : Byte).toNat ≤ 30 ∧ (30 : Byte).toNat ≤ 30 := by decide

theorem witness_AccumulatorWidthAndOrderDoNotMatter : ([0xFF, 0x02] : List Byte).Perm [0x02, 0xFF] ∧ 8 ≤ 8 :=
  by decide

theorem witness_IdBytesAddFE : (List.replicate 13 (0x01 : Byte)).length = 13 := by decide

theorem witness_VerdictDependsOnBytes2To8 :
    m100.valid = true ∧ (0x2D : Byte) ≠ m100.ck ∧
      ∃ q : ReplyFrame, q.ck = m100.ck ∧ q.payload[5]? ≠ m100.payload[5]? ∧
        ∀ n, n ≠ 5 → q.payload[n]? = m100.payload[n]? := by
  refine ⟨by decide, by decide, { m100 with p7 := 1 }, rfl, by decide, fun n hn => ?_⟩
  match n, hn with
  | 0, _ | 1, _ | 2, _ | 3, _ | 4, _ => rfl
  | _ + 6, _ => rfl

theorem witness_EmptyDataFrameNeverRaised :
    ∃ (s : State) (t : State), step s = .next t ∧ t.rsp.status = 2 :=
  ⟨{ State.reset with rsp := { Rsp.reset with status := 2 } }, _, rfl, rfl⟩

theorem witness_MeasurementDependsOnBytes2To5 :
    m100.valid = true ∧ m100xy.valid = true ∧ m100xy.p2 = m100.p2 ∧ m100xy.p3 = m100.p3 ∧ m100xy.p4 = m100.p4 ∧
      m100xy.p5 = m100.p5 := by decide

theorem witness_StepRunsTheRequest :
    ∃ (s : State) (ts : List Turn) (w : ReqWord) (more : List ReqWord) (i : Instr), s.env.schedule = .host :: ts ∧
      s.env.host = w :: more ∧ decodeRequest w = .ok i :=
  ⟨offered .ready ⟨0b10, 0⟩, [], ⟨0b10, 0⟩, [], .query, rfl, rfl, rfl⟩

theorem witness_reply_in_RX :
    (receiving 9 m100 [.byte m100.tail]).phase = .rx ∧ (receiving 9 m100 [.byte m100.tail]).rxcnt = 9 ∧
      (∀ j, j < 9 → readByte .rx j (receiving 9 m100 [.byte m100.tail]) = .ok (m100.toBytes.getD j 0)) := by
  refine ⟨rfl, rfl, fun j hj => ?_⟩
  have : j = 0 ∨ j = 1 ∨ j = 2 ∨ j = 3 ∨ j = 4 ∨ j = 5 ∨ j = 6 ∨ j = 7 ∨ j = 8 := by omega
  rcases this with rfl | rfl | rfl | rfl | rfl | rfl | rfl | rfl | rfl <;> rfl

theorem witness_StepRunsTheReply :
    ∃ (s : State) (ts : List Turn) (as : List RxAnswer) (r : ReplyFrame) (i : Instr), s.phase = .rx ∧
      s.rxcnt = 9 ∧ s.env.schedule = .transport :: ts ∧
      s.env.rxAns = .byte r.tail :: as ∧ (∀ j, j < 9 → readByte .rx j s = .ok (r.toBytes.getD j 0)) ∧
      decode s.op r.toBytes = .ok i :=
  ⟨receiving 9 m100 [.byte m100.tail], [], [], m100, .replyMeasurement m100, rfl, rfl, rfl, rfl,
    witness_reply_in_RX.2.2, rfl⟩

theorem witness_PlacedWordRuns :
    decodeTableWord 152 0xAB02FFFF00000000000000000000000004B4AA = some .query ∧
      decodeTableWord 80 0xAB0E000000050108C5AA = some (.replyConfirm c5) := by decide

theorem witness_NoEventNoMove :
    (∃ (s : State), s.env.schedule = []) ∧ (∃ (s : State) (ts : List Turn), s.env.schedule = Turn.host :: ts ∧
      s.env.host = []) ∧
      (∃ (s : State) (ts : List Turn), s.env.schedule = Turn.transport :: ts ∧ s.phase = .failed) ∧
      (∃ (s : State) (ts : List Turn), s.env.schedule = Turn.transport :: ts ∧ s.phase = .rx ∧ s.env.rxAns = []) ∧
      ∃ (s : State) (ts : List Turn) (b : Byte), s.env.schedule = Turn.transport :: ts ∧ s.phase = .tx ∧
        readByte .tx s.txidx s = .ok b ∧
        s.env.txAns = [] :=
  ⟨⟨.reset, rfl⟩, ⟨at' .ready [.host], [], rfl, rfl⟩, ⟨at' .failed [.transport], [], rfl, rfl⟩,
    ⟨at' .rx [.transport], [], rfl, rfl, rfl⟩, ⟨sending 0 [.transport] [] [], [], 0xAA, rfl, rfl, rfl, rfl⟩⟩

theorem witness_OpenStartsConstruction :
    ∃ (s : State) (rest : List OpenAnswer), s.phase = .unopened ∧ s.env.openAns = OpenAnswer.ok :: rest :=
  ⟨offered .unopened ⟨0, 0⟩, [], rfl, rfl⟩

theorem witness_FailedOpenEndsInFailed :
    ∃ (s : State) (k : TErr) (rest : List OpenAnswer), s.phase = .unopened ∧
      s.env.openAns = OpenAnswer.failed k :: rest :=
  ⟨{ State.reset with env := { Env.quiet with openAns := [.failed k] } }, k, [], rfl, rfl⟩

theorem witness_LegalWorkPeriodStarts : (at' .ready []).phase = .ready ∧ (30 : Byte).toNat ≤ 30 := by decide

theorem witness_LongWorkPeriodRejected :
    (at' .ready []).phase = .ready ∧ (at' .ready []).init = false ∧ 30 < (31 : Byte).toNat := by decide

theorem witness_QueryStarts : (at' .ready []).phase = .ready := rfl

theorem witness_AcceptanceTable (p : Phase) (w : ReqWord) :
    (offered p w).env.schedule = [.host] ∧ (offered p w).env.host = [w] ∧ (offered p w).phase = p ∧
      (offered p w).env.openAns ≠ [] := ⟨rfl, rfl, rfl, by simp [offered]⟩

theorem witness_CommandsLeaveTheRest :
    (∃ (s : State) (t : State), exec .setReportMode s = .next t ∧ starts .setReportMode s) ∧
      (∃ (s : State) (t : State), exec (.setWorkPeriod 31) s = .next t ∧ ¬ starts (.setWorkPeriod 31) s) ∧
      ∃ (s : State) (t : State), exec .query s = .next t ∧ s.phase.busy = true :=
  ⟨⟨offered .unopened ⟨0, 0⟩, _, rfl, rfl, rfl⟩, ⟨at' .ready [], _, rfl, by simp [starts]⟩, ⟨at' .rx [], _, rfl, rfl⟩⟩

theorem witness_valid_reply : sum8 [m100.p2, m100.p3, m100.p4, m100.p5, m100.p6, m100.p7] = m100.ck := by decide

theorem witness_BadChecksumRaised :
    ∃ (s : State) (ts : List Turn) (as : List RxAnswer) (r : ReplyFrame), s.phase = .rx ∧ s.rxcnt = 9 ∧
      s.env.schedule = .transport :: ts ∧ s.env.rxAns = .byte r.tail :: as ∧
      (∀ j, j < 9 → readByte .rx j s = .ok (r.toBytes.getD j 0)) ∧
      sum8 [r.p2, r.p3, r.p4, r.p5, r.p6, r.p7] ≠ r.ck := by
  refine ⟨receiving 9 mBad [.byte mBad.tail], [], [], mBad, rfl, rfl, rfl, rfl, fun j hj => ?_, by decide⟩
  have : j = 0 ∨ j = 1 ∨ j = 2 ∨ j = 3 ∨ j = 4 ∨ j = 5 ∨ j = 6 ∨ j = 7 ∨ j = 8 := by omega
  rcases this with rfl | rfl | rfl | rfl | rfl | rfl | rfl | rfl | rfl <;> rfl

theorem witness_RepliesLeaveTheRest :
    ∃ (op : Op) (r : ReplyFrame) (s : State) (t : State), exec (replyInstr op r) s = .next t ∧ op ≠ .query :=
      ⟨.workPeriod, c5, receiving 10 c5 [], _, rfl, by decide⟩

theorem witness_AcceptedByteAdvances (i : Nat) (h : i = 0 ∨ i = 18) :
    ∃ (s : State) (ts : List Turn) (b : Byte) (rest : List TxAnswer), s.txidx = i ∧ s.phase = .tx ∧
      s.env.schedule = .transport :: ts ∧
      readByte .tx s.txidx s = .ok b ∧ s.env.txAns = .accepted :: rest := by
  rcases h with rfl | rfl
  · exact ⟨sending 0 [.transport] [.accepted] [], [], 0xAA, [], rfl, rfl, rfl, rfl, rfl⟩
  · exact ⟨sending 18 [.transport] [.accepted] [], [], 0xAB, [], rfl, rfl, rfl, rfl, rfl⟩

theorem witness_FailedWriteEnds :
    ∃ (s : State) (ts : List Turn) (b : Byte) (k : TErr) (rest : List TxAnswer), s.phase = .tx ∧
      s.env.schedule = .transport :: ts ∧ readByte .tx s.txidx s = .ok b ∧
      s.env.txAns = .failed k :: rest :=
  ⟨sending 7 [.transport] [.failed k] [], [], 0, k, [], rfl, rfl, rfl, rfl⟩

theorem witness_ReplyByteStored (n : Nat) (h : n = 0 ∨ n = 8) :
    ∃ (s : State) (ts : List Turn) (b : Byte) (as : List RxAnswer), s.rxcnt = n ∧ s.phase = .rx ∧ s.rxcnt < 9 ∧
      s.env.schedule = .transport :: ts ∧
      s.env.rxAns = .byte b :: as :=
  ⟨receiving n m100 [.byte 0xAB], [], 0xAB, [], rfl, rfl, by show n < 9; omega, rfl, rfl⟩

theorem witness_FailedReadEnds :
    ∃ (s : State) (ts : List Turn) (k : TErr) (as : List RxAnswer), s.phase = .rx ∧
      s.env.schedule = .transport :: ts ∧ s.env.rxAns = .failed k :: as :=
  ⟨receiving 9 m100 [.failed k], [], k, [], rfl, rfl, rfl⟩

theorem witness_ResetAbandonsTheTransaction :
    ∃ (s : State) (ts : List Turn), s.env.schedule = .reset :: ts ∧ s.phase = .tx ∧ ts ≠ [] ∧
      ∀ turn ∈ ts, turn = Turn.transport :=
  ⟨at' .tx [.reset, .transport, .transport], _, rfl, rfl, by decide, by decide⟩

theorem witness_ResetSetsTheTable :
    ∃ (s : State) (ts : List Turn), s.env.schedule = .reset :: ts ∧ s.phase = .failed := ⟨at' .failed [.reset], _, rfl, rfl⟩

/-! ### Witnesses with the invariant -/

theorem reset_inv : State.reset.Inv where
  txWf := rfl
  rxWf := rfl
  txidxBound := ⟨by decide, by decide⟩
  rxcntBound := ⟨by decide, by decide⟩
  rxAfterFrame := by decide
  frameHeld := fun h => by cases h
  repliesWritten := by decide
  initExact := by decide
  responseStands := by decide
  statusWritten := fun h => by cases h
  stageWritten := by decide
  measurementOk := by decide
  failedShowsError := by decide

/-- The invariant speaks of no field of the environment. -/
theorem inv_env {s : State} (h : s.Inv) (e : Env) : { s with env := e }.Inv := { h with }

/-- `FAILED` after a failed open. -/
def failedState : State := { at' .failed [] with rsp := { Rsp.reset with rspValid := true, status := 4 } }

theorem failedState_inv : failedState.Inv where
  txWf := rfl
  rxWf := rfl
  txidxBound := ⟨by decide, by decide⟩
  rxcntBound := ⟨by decide, by decide⟩
  rxAfterFrame := by decide
  frameHeld := fun h => by cases h
  repliesWritten := fun h => by cases h
  initExact := by decide
  responseStands := by decide
  statusWritten := fun _ => .inr (.inr (.inr rfl))
  stageWritten := by decide
  measurementOk := by decide
  failedShowsError := fun _ => .inr rfl

theorem sending_inv (i : Nat) (hi : i < 19) (ts : List Turn) (ta : List TxAnswer) (ra : List RxAnswer) :
    (sending i ts ta ra).Inv where
  txWf := rfl
  rxWf := rfl
  txidxBound := ⟨by show i ≤ 19; omega, fun _ => hi⟩
  rxcntBound := ⟨by show 0 ≤ 10; decide, fun _ => by show 0 < 10; decide⟩
  rxAfterFrame := fun h => by cases h
  frameHeld := fun _ => ⟨.query, rfl, by decide, rfl, rfl⟩
  repliesWritten := fun h => by cases h
  initExact := by show false = true ↔ _; simp [sending]
  responseStands := by show false = true ↔ _; simp [sending]
  statusWritten := fun h => by cases h
  stageWritten := fun h => by cases h
  measurementOk := fun h => by cases h
  failedShowsError := fun h => by cases h

theorem receiving_inv (ra : List RxAnswer) : (receiving 9 m100 ra).Inv where
  txWf := rfl
  rxWf := rfl
  txidxBound := ⟨Nat.le_refl 19, fun h => by cases h⟩
  rxcntBound := ⟨by show 9 ≤ 10; decide, fun _ => by show 9 < 10; decide⟩
  rxAfterFrame := fun _ => rfl
  frameHeld := fun _ => ⟨.query, rfl, by decide, rfl, rfl⟩
  repliesWritten := fun _ => by
    show ∀ j < 9, ((Memory.ofBytes (m100.toBytes.take 9)).lookup j).isSome = true
    decide
  initExact := by show false = true ↔ _; simp [receiving]
  responseStands := by show false = true ↔ _; simp [receiving]
  statusWritten := fun h => by cases h
  stageWritten := fun h => by cases h
  measurementOk := fun h => by cases h
  failedShowsError := fun h => by cases h

theorem witness_EveryStepKeepsTheInvariant :
    ∃ (s : State) (t : State), s.Inv ∧ step s = .next t ∧ t.phase = .ready ∧ t.rsp.pm25Raw = 100 :=
  ⟨receiving 9 m100 [.byte 0xAB], _, receiving_inv _, rfl, rfl, rfl⟩

theorem witness_PhaseChangesAsTheTableSays :
    (∃ (s : State) (t : State), s.Inv ∧ step s = .next t ∧ t.phase ≠ s.phase ∧
      s.env.schedule.head? = some .reset) ∧
      (∃ (s : State) (t : State), s.Inv ∧ step s = .next t ∧ t.phase ≠ s.phase ∧
        s.env.schedule.head? = some .host) ∧
      (∃ (s : State) (t : State), s.Inv ∧ step s = .next t ∧ t.phase ≠ s.phase ∧ s.phase = .tx) ∧
      ∃ (s : State) (t : State), s.Inv ∧ step s = .next t ∧ t.phase ≠ s.phase ∧ s.phase = .rx :=
  ⟨⟨{ failedState with env := { Env.quiet with schedule := [.reset] } }, _, inv_env failedState_inv _, rfl,
    by decide, rfl⟩,
    ⟨offered .unopened ⟨0, 0⟩, _, inv_env reset_inv _, rfl, by decide, rfl⟩,
    ⟨sending 18 [.transport] [.accepted] [], _, sending_inv 18 (by decide) _ _ _, rfl, by decide, rfl⟩,
    ⟨receiving 9 m100 [.byte 0xAB], _, receiving_inv _, rfl, by decide, rfl⟩⟩

theorem witness_FailedLeftOnlyByReset :
    ∃ (s : State) (t : State), s.phase = .failed ∧ step s = .next t ∧ s.env.schedule.head? ≠ some .reset :=
  ⟨at' .failed [.transport], _, rfl, rfl, by decide⟩

theorem witness_TransactionEndsInItsPhase :
    (∃ (s : State) (t : State), s.phase.busy = true ∧ step s = .next t ∧ t.phase.busy = false ∧
      s.env.schedule.head? ≠ some .reset ∧
        s.init = false) ∧
      (∃ (s : State) (t : State), s.phase.busy = true ∧ step s = .next t ∧ t.phase.busy = false ∧
        s.env.schedule.head? ≠ some .reset ∧
        s.init = true ∧ t.rsp.status = 0) ∧
      ∃ (s : State) (t : State), s.phase.busy = true ∧ step s = .next t ∧ t.phase.busy = false ∧
        s.env.schedule.head? ≠ some .reset ∧
        s.init = true ∧ t.rsp.status ≠ 0 :=
  ⟨⟨sending 7 [.transport] [.failed k] [], _, rfl, rfl, rfl, by decide, rfl⟩,
    ⟨{ receiving 9 m100 [.byte 0xAB] with init := true }, _, rfl, rfl, rfl, by decide, rfl, rfl⟩,
    ⟨{ receiving 9 mBad [.byte 0xAB] with init := true }, _, rfl, rfl, rfl, by decide, rfl, by decide⟩⟩

theorem witness_BytesGoOutInIndexOrder : ∃ (s : State) (t : State), step s = .next t ∧ t.env.sent ≠ s.env.sent :=
  ⟨sending 0 [.transport] [.accepted] [], _, rfl, by decide⟩

theorem witness_RepliesTakenOneByOne : ∃ (s : State) (t : State), step s = .next t ∧ t.env.rxAns ≠ s.env.rxAns :=
  ⟨receiving 0 m100 [.byte 0xAA], _, rfl, by decide⟩

theorem witness_CommandBufferStableWhileSent :
    ∃ (s : State) (t : State), s.phase = .tx ∧ step s = .next t ∧ s.env.schedule.head? ≠ some .reset :=
  ⟨sending 18 [.transport] [.accepted] [], _, rfl, rfl, by decide⟩

theorem witness_ResponseWrittenOnlyAtAnEnd :
    ∃ (s : State) (t : State), step s = .next t ∧ s.env.schedule.head? ≠ some .reset ∧ t.rsp ≠ s.rsp :=
  ⟨receiving 9 m100 [.byte 0xAB], _, rfl, by decide, by decide⟩

theorem witness_RawFieldsWrittenOnlyByQuery :
    ∃ (s : State) (t : State), step s = .next t ∧ s.env.schedule.head? ≠ some .reset ∧
      t.rsp.pm25Raw ≠ s.rsp.pm25Raw :=
  ⟨receiving 9 m100 [.byte 0xAB], _, rfl, by decide, by decide⟩

theorem witness_OnlyTheHostCanFault : ∃ (s : State) (f : Fault), s.Inv ∧ step s = .fault f :=
  ⟨reading .unopened Rsp.reset .status, .hostRead .status, inv_env reset_inv _, rfl⟩

theorem witness_NoRetry_start :
    ∃ (s : State) (t : State), s.phase.busy = false ∧ step s = .next t ∧ t.phase.busy = true :=
  ⟨offered .ready ⟨0b10, 0⟩, _, rfl, rfl, rfl⟩

theorem witness_NoRetry :
    ∃ (s : State), State.phase s = .failed ∧ s.phase.busy = false ∧ s.env.schedule ≠ [] ∧
      ∀ turn ∈ s.env.schedule, turn = Turn.transport :=
  ⟨at' .failed [.transport, .transport], rfl, rfl, by decide, by decide⟩

theorem witness_UnansweredWriteBlocks :
    ∃ (s : State) (b : Byte), s.phase = .tx ∧ s.env.txAns = [] ∧ readByte .tx s.txidx s = .ok b ∧
      (∀ turn ∈ s.env.schedule, turn = .host ∨ turn = .transport) ∧ (∀ w ∈ s.env.host, w.reqOp ≠ 0b11) ∧
      s.env.host ≠ [] ∧ s.env.schedule ≠ [] :=
  ⟨{ sending 18 [] [] [] with env := { Env.quiet with schedule := [.host, .transport], host := [⟨0b10, 0⟩] } },
    0xAB, rfl, rfl, rfl, by decide, by decide, by decide, by decide⟩

theorem witness_AnsweredTransactionEnds :
    ∃ (s : State), s.Inv ∧ s.phase.busy = true ∧ 19 ≤ s.env.txAns.length ∧ 10 ≤ s.env.rxAns.length ∧
      s.env.schedule = List.replicate 29 .transport :=
  ⟨sending 0 (List.replicate 29 .transport) (List.replicate 19 .accepted) (List.replicate 10 (.byte 0)),
    sending_inv 0 (by decide) _ _ _, rfl, by decide, by decide, rfl⟩

/-- An OPEN whose every answer is given, in the state it is accepted in. -/
def openAnswered : State :=
  { State.reset with
    env := { Env.quiet with
      schedule := .host :: List.replicate 29 .transport
      host := [⟨0, 0⟩]
      openAns := [.ok]
      txAns := List.replicate 19 .accepted
      rxAns := m100.toBytes.map .byte } }

theorem witness_StepsAgreeWithTransact :
    ∃ (s : State) (i : Instr) (w : ReqWord) (more : List ReqWord) (o : OpenAnswer) (sent : List Byte)
      (res : Result), decodeRequest w = .ok i ∧ s.phase = acceptingPhase i ∧ s.init = false ∧
      s.env.host = w :: more ∧ (i = .setReportMode → s.env.openAns.head? = some o) ∧
      s.env.schedule = .host :: List.replicate 29 .transport ∧
      transact i o s.env.txAns s.env.rxAns = some (sent, res) :=
  ⟨openAnswered, .setReportMode, ⟨0, 0⟩, [], .ok, frameReportMode, .confirm, rfl, rfl, rfl, rfl, fun _ => rfl,
    rfl, by decide⟩

theorem witness_ErrorsInTheirOrder :
    30 < (31 : Byte).toNat ∧ 18 < frameQuery.length ∧ (List.replicate 9 (0 : Byte)).length < 10 := by decide

theorem witness_HostReadsWhatCarriesMeaning (f : RspField) (r : Rsp) (h : r.status ≤ 4) :
    (reading .ready r f).env.schedule = [.read f] ∧ (reading .ready r f).rsp.status ≤ 4 := ⟨rfl, h⟩

/-- The four clauses: no response, no measurement, no transport error, and each of the three there. -/
theorem witness_HostReads_clauses :
    ((Rsp.reset : Rsp).rspValid = false ∧ (Rsp.reset : Rsp).status ≤ 4) ∧
      (∃ r : Rsp, r.rspValid = true ∧ r.pmValid = false ∧ r.status = 4) ∧
      (∃ r : Rsp, r.rspValid = true ∧ r.pmValid = true ∧ r.status ≠ 4 ∧ r.status ≤ 4) :=
  ⟨by decide, ⟨{ Rsp.reset with rspValid := true, status := 4 }, rfl, rfl, rfl⟩,
    ⟨{ Rsp.reset with rspValid := true, pmValid := true }, rfl, rfl, by decide, by decide⟩⟩

theorem witness_EarlyReadGivesNothing :
    (∃ (i : Instr) (s : State) (t : State), starts i s ∧ exec i s = .next t) ∧
      (∀ f, ∃ (s : State) (ts : List Turn), s.Inv ∧ s.phase.busy = true ∧ s.env.host ≠ [] ∧
        s.env.schedule = .read f :: ts) ∧
      ∀ f, ∃ (s : State) (ts : List Turn), s.Inv ∧ s.phase = .unopened ∧ s.env.schedule = .read f :: ts :=
  ⟨⟨.query, at' .ready [], _, rfl, rfl⟩,
    fun f => ⟨{ sending 0 [] [] [] with env := { Env.quiet with schedule := [.read f], host := [⟨0b10, 0⟩] } }, [],
      inv_env (sending_inv 0 (by decide) [] [] []) _, rfl, by simp, rfl⟩,
    fun f => ⟨reading .unopened Rsp.reset f, [], inv_env reset_inv _, rfl, rfl⟩⟩

/-- Failure values of another type than the machine's own: numbers, with 0 for the empty description. -/
theorem witness_FailureTypeIsAnArgument :
    ∃ (f : TErr → Nat), f default = default ∧ f k = 1 ∧
      (stepAt ((sending 7 [.transport] [.failed k] []).mapTErr f)).casesOn (fun t => t.rsp.terr = 1)
        (fun _ => False) (fun _ => False) :=
  ⟨fun e => e.description.length, rfl, rfl, rfl⟩

theorem witness_ConcentrationIsATenth : (65535 : Raw).toNat = (65534 : Raw).toNat + 1 := by decide

theorem witness_MessageOfAMeasurement :
    m100.valid = true ∧ State.reset.rsp.rspValid = false ∧
      ∃ s : State, s.rsp.rspValid = true ∧ s.rsp.pmValid = false :=
  ⟨by decide, rfl, failedState, rfl, rfl⟩

end Sys2Proof.Tests
end

section
/-! PROOFS. No operation of the model looks inside a failure value: each commutes with `State.mapTErr`, from the updates
over the meanings and the turns up to the step (R6, R33, R175). Where both sides reduce to the same record, `rfl` says
so. -/

namespace Sys2Proof.Machine

variable {E E' : Type} (g : E → E')

/-! ## Renaming in errors and in fetched turns -/

/-- Another value in the place of the failure value of a transport error. -/
def ErrInfo.mapTErr : ErrInfo E → ErrInfo E'
  | .tooLongWorkTime => .tooLongWorkTime
  | .emptyDataFrame => .emptyDataFrame
  | .badChecksum => .badChecksum
  | .transportError stage k => .transportError stage (g k)

/-- Another value in the place of each failure value of the state a turn runs on, or of its answer. -/
def Fetched.mapTErr : Fetched E → Fetched E'
  | .run i s => .run i (s.mapTErr g)
  | .answer o => .answer (mapOutcome g o)

/-! ## The updates -/

/-- R170: the value of an error is stored as it is, and no other field depends on it. -/
theorem raise_mapTErr (e : ErrInfo E) (s : State E) :
    raise (e.mapTErr g) (s.mapTErr g) = (raise e s).mapTErr g := by
  cases e <;> rfl

theorem txAccepted_mapTErr (b : Byte) (s : State E) :
    txAccepted b (s.mapTErr g) = (txAccepted b s).mapTErr g := by
  simp only [txAccepted_eq]
  rfl

theorem noteReading_mapTErr (fld : RspField) (v : Reading E) (s : State E) :
    noteReading fld (v.mapTErr g) (s.mapTErr g) = (noteReading fld v s).mapTErr g := by
  simp [noteReading, State.mapTErr, Env.mapTErr]

/-- The one operation that makes up a failure value, the type's default in `terr` (log entry 1). -/
theorem resetBlock_mapTErr [Inhabited E] [Inhabited E'] (hg : g default = default) (s : State E) :
    resetBlock (s.mapTErr g) = (resetBlock s).mapTErr g := by
  simp [resetBlock, State.resetAt, Rsp.reset, State.mapTErr, Rsp.mapTErr, hg]

/-! ## The meanings -/

theorem execSetReportMode_mapTErr (s : State E) :
    execSetReportMode (s.mapTErr g) = mapOutcome g (execSetReportMode s) := by
  simp only [execSetReportMode, mapTErr_phase, mapTErr_env_openAns]
  cases s.phase with
  | unopened =>
    cases s.env.openAns with
    | nil => rfl
    | cons a rest =>
      cases a with
      | ok => rfl
      | failed k =>
        exact congrArg Host.Outcome.next (raise_mapTErr g (.transportError .opening k) (beginConstruction rest s))
  | tx | rx | ready | failed => rfl

theorem execSetWorkPeriod_mapTErr (m : Byte) (s : State E) :
    execSetWorkPeriod m (s.mapTErr g) = mapOutcome g (execSetWorkPeriod m s) := by
  simp only [execSetWorkPeriod, mapTErr_phase]
  cases s.phase with
  | ready =>
    cases legalPeriod m with
    | true => rfl
    | false => exact congrArg Host.Outcome.next (raise_mapTErr g .tooLongWorkTime (accept s))
  | unopened | tx | rx | failed => rfl

theorem execQuery_mapTErr (s : State E) : execQuery (s.mapTErr g) = mapOutcome g (execQuery s) := by
  simp only [execQuery, mapTErr_phase]
  cases s.phase <;> rfl

theorem execReplyConfirm_mapTErr (r : ReplyFrame) (s : State E) :
    execReplyConfirm r (s.mapTErr g) = mapOutcome g (execReplyConfirm r s) := by
  simp only [execReplyConfirm_eq]
  cases r.valid with
  | true => rfl
  | false => exact congrArg Host.Outcome.next (raise_mapTErr g .badChecksum s)

theorem execReplyMeasurement_mapTErr (r : ReplyFrame) (s : State E) :
    execReplyMeasurement r (s.mapTErr g) = mapOutcome g (execReplyMeasurement r s) := by
  simp only [execReplyMeasurement_eq]
  cases r.valid with
  | true => rfl
  | false => exact congrArg Host.Outcome.next (raise_mapTErr g .badChecksum s)

theorem execAt_mapTErr (i : Instr) (s : State E) : execAt i (s.mapTErr g) = mapOutcome g (execAt i s) := by
  cases i with
  | setReportMode => exact execSetReportMode_mapTErr g s
  | query => exact execQuery_mapTErr g s
  | setWorkPeriod m => exact execSetWorkPeriod_mapTErr g m s
  | replyConfirm r => exact execReplyConfirm_mapTErr g r s
  | replyMeasurement r => exact execReplyMeasurement_mapTErr g r s

/-! ## The host's turns -/

/-- R152: whether a read is a fault does not depend on a failure value, and a read of `terr` gives the value as it is. -/
theorem hostRead_mapTErr (fld : RspField) (s : State E) :
    hostRead fld (s.mapTErr g) = (hostRead fld s).map (Reading.mapTErr g) := by
  by_cases hv : s.rsp.rspValid
  · cases fld with
    | rspValid | pmValid => simp [hostRead, hv, Except.map, Reading.mapTErr]
    | status => by_cases hc : reservedCode s.rsp.status <;> simp [hostRead, hv, hc, Except.map, Reading.mapTErr]
    | terrStage | terr =>
      by_cases hc : s.rsp.status = statusTransportError <;> simp [hostRead, hv, hc, Except.map, Reading.mapTErr]
    | pm25Raw | pm10Raw => by_cases hc : s.rsp.pmValid <;> simp [hostRead, hv, hc, Except.map, Reading.mapTErr]
  · cases fld <;> simp [hostRead, hv, Except.map, Reading.mapTErr]

theorem readTurn_mapTErr (fld : RspField) (s : State E) :
    readTurn fld (s.mapTErr g) = mapOutcome g (readTurn fld s) := by
  simp only [readTurn, hostRead_mapTErr]
  cases hostRead fld s with
  | error e => rfl
  | ok v => exact congrArg Host.Outcome.next (noteReading_mapTErr g fld v s)

theorem hostTurn_mapTErr (s : State E) : hostTurn (s.mapTErr g) = (hostTurn s).mapTErr g := by
  simp only [hostTurn, mapTErr_env_host]
  cases s.env.host with
  | nil => rfl
  | cons w more =>
    simp only [judge]
    cases decodeRequest w <;> rfl

/-! ## The transport's turn -/

theorem txTurn_mapTErr (s : State E) : txTurn (s.mapTErr g) = mapOutcome g (txTurn s) := by
  simp only [txTurn, mapTErr_txidx, readByte_mapTErr, mapTErr_env_txAns]
  cases readByte .tx s.txidx s with
  | error e => rfl
  | ok b =>
    cases s.env.txAns with
    | nil => rfl
    | cons a rest =>
      cases a with
      | accepted => exact congrArg Host.Outcome.next (txAccepted_mapTErr g b (takeTxAnswer rest s))
      | failed k => exact congrArg Host.Outcome.next (raise_mapTErr g (.transportError .write k) (takeTxAnswer rest s))

/-- A reply reads the same: no failure value is in a buffer. -/
theorem readReply_mapTErr (s : State E) : readReply (s.mapTErr g) = readReply s := by
  simp only [readReply, readByte_mapTErr]

theorem fetchReply_mapTErr (s : State E) : fetchReply (s.mapTErr g) = (fetchReply s).mapTErr g := by
  simp only [fetchReply, readReply_mapTErr]
  cases readReply s <;> rfl

theorem capture_mapTErr (b : Byte) (s : State E) : capture b (s.mapTErr g) = (capture b s).mapTErr g := by
  by_cases hroom : s.rxcnt < Const.replyLen
  · by_cases hlast : s.rxcnt + 1 = Const.replyLen
    · simp only [capture, mapTErr_rxcnt, hroom, hlast, if_true]
      exact fetchReply_mapTErr g (storeReplyByte b s)
    · simp only [capture, mapTErr_rxcnt, hroom, hlast, if_true, if_false]
      rfl
  · simp only [capture, mapTErr_rxcnt, hroom, if_false]
    rfl

theorem rxTurn_mapTErr (s : State E) : rxTurn (s.mapTErr g) = (rxTurn s).mapTErr g := by
  simp only [rxTurn, mapTErr_env_rxAns]
  cases s.env.rxAns with
  | nil => rfl
  | cons a rest =>
    cases a with
    | byte b => exact capture_mapTErr g b (takeRxAnswer rest s)
    | failed k =>
      exact congrArg (Fetched.answer ∘ Host.Outcome.next)
        (raise_mapTErr g (.transportError .read k) (takeRxAnswer rest s))

theorem transportTurn_mapTErr (s : State E) : transportTurn (s.mapTErr g) = (transportTurn s).mapTErr g := by
  simp only [transportTurn, mapTErr_phase]
  cases s.phase with
  | tx => exact congrArg Fetched.answer (txTurn_mapTErr g s)
  | rx => exact rxTurn_mapTErr g s
  | unopened | ready | failed => rfl

/-! ## The step -/

theorem fetch_mapTErr [Inhabited E] [Inhabited E'] (hg : g default = default) (s : State E) :
    fetch (s.mapTErr g) = (fetch s).mapTErr g := by
  simp only [fetch, mapTErr_env_schedule]
  cases s.env.schedule with
  | nil => rfl
  | cons turn rest =>
    cases turn with
    | reset => exact congrArg (Fetched.answer ∘ Host.Outcome.next) (resetBlock_mapTErr g hg (takeTurn s))
    | host => exact hostTurn_mapTErr g (takeTurn s)
    | read fld => exact congrArg Fetched.answer (readTurn_mapTErr g fld (takeTurn s))
    | transport => exact transportTurn_mapTErr g (takeTurn s)

theorem stepAt_mapTErr [Inhabited E] [Inhabited E'] (hg : g default = default) (s : State E) :
    stepAt (s.mapTErr g) = mapOutcome g (stepAt s) := by
  simp only [stepAt, fetch_mapTErr g hg]
  cases fetch s with
  | run i t => exact execAt_mapTErr g i t
  | answer o => rfl

/-- Settles O56: the step commutes with renaming failure values, and the machine the host reads is the parametric one. -/
theorem failureTypeIsAnArgument : Obligations.FailureTypeIsAnArgument :=
  ⟨fun _ _ _ _ g s hg => stepAt_mapTErr g hg s, step_eq_stepAt, exec_eq_execAt⟩

end Sys2Proof.Machine
end

section
/-! PROOFS. The command frames: the builder's three frames are the encoder's, and what the command buffer reads as while
it holds one (R103 to R107, R104). -/

namespace Sys2Proof.Machine

theorem frameReportMode_eq_encode : frameReportMode = encode .setReportMode := by decide

theorem frameQuery_eq_encode : frameQuery = encode .query := by decide

/-- R110: the builder's checksum is the encoder's `0x07 + m`. -/
theorem frameWorkPeriod_eq_encode (m : Byte) : frameWorkPeriod m = encode (.setWorkPeriod m) := by
  have hck : 0x08 + (0x01 + (m + 0xFE)) = 0x07 + m := by bv_omega
  simpa [frameWorkPeriod, build, bodyWorkPeriod, padding, ckTx, slice, encode, Const.head, Const.cmdId, Const.tail,
    Const.id1, Const.id2, Const.opWorkPeriod, Const.dirWrite, Const.ckFirst, Const.ckTxLast, List.replicate] using hck

theorem length_encode_command {i : Instr} (hi : acceptingPhase i ≠ .rx) : (encode i).length = Const.cmdLen := by
  cases i with
  | setReportMode | query | setWorkPeriod m => rfl
  | replyConfirm r | replyMeasurement r => exact absurd rfl hi

/-- R104: every byte of a frame written whole can be read back. -/
theorem readByte_tx_of_holds {i : Instr} (hi : acceptingPhase i ≠ .rx) {s : State}
    (htx : s.tx = Memory.ofBytes (encode i)) {j : Nat} (hj : j < Const.cmdLen) :
    readByte .tx j s = .ok ((encode i).getD j 0) := by
  have hlen : j < (encode i).length := by rwa [length_encode_command hi]
  refine readByte_ok.mpr ⟨hj, ?_⟩
  simp [State.buffer, htx, lookup_ofBytes, hlen]

theorem legalPeriod_iff (m : Byte) : legalPeriod m = true ↔ m.toNat ≤ 30 := by
  simp [legalPeriod, BitVec.le_def, Const.maxWorkPeriod]

end Sys2Proof.Machine
end

section
/-! PROOFS. The invariant of the block: it holds at reset, and every event of a step keeps it. One lemma per kind of
update; a transaction that ends, however it ends, needs only that the buffers fit. -/

namespace Sys2Proof.Machine

/-- R22, R23: the part of the invariant that does not depend on the phase: both buffers are in canonical form and both
indices in their range. -/
def State.BuffersFit (s : State) : Prop :=
  Memory.wf Const.cmdLen s.tx = true ∧ Memory.wf Const.replyLen s.rx = true ∧
    s.txidx ≤ Const.cmdLen ∧ s.rxcnt ≤ Const.replyLen

theorem State.Inv.buffersFit {s : State} (h : s.Inv) : s.BuffersFit :=
  ⟨h.txWf, h.rxWf, h.txidxBound.1, h.rxcntBound.1⟩

theorem buffersFit_storeReplyByte {s : State} (h : s.BuffersFit) (b : Byte) (hn : s.rxcnt < Const.replyLen) :
    (storeReplyByte b s).BuffersFit := by
  obtain ⟨htx, hrx, hti, -⟩ := h
  exact ⟨htx, wf_write b hn s.rx hrx, hti, hn⟩

/-- The invariant speaks of no field of the environment. -/
theorem State.Inv.withEnv {s : State} (h : s.Inv) (e : Env) : { s with env := e }.Inv := { h with }

/-- R32, R200: a reset gives a state with the invariant from any state. -/
theorem resetBlock_inv (s : State) : (resetBlock s).Inv where
  txWf := rfl
  rxWf := rfl
  txidxBound := ⟨Nat.zero_le _, by simp⟩
  rxcntBound := ⟨Nat.zero_le _, by simp⟩
  rxAfterFrame := by simp
  frameHeld := by simp [Phase.busy]
  repliesWritten := by simp
  initExact := by simp [Phase.busy]
  responseStands := by simp [Rsp.reset]
  statusWritten := by simp [Rsp.reset]
  stageWritten := by simp [Rsp.reset]
  measurementOk := by simp [Rsp.reset]
  failedShowsError := by simp

/-- R104: a frame started for a command of the current operation, with `init` for OPEN alone and no response. -/
theorem startFrame_inv {s : State} {i : Instr} (hwf : i.wf = true) (hi : acceptingPhase i ≠ .rx)
    (hb : s.BuffersFit) (hop : s.op = i.op) (hinit : s.init = true ↔ i.op = .reportMode)
    (hv : s.rsp.rspValid = false) (hpm : s.rsp.pmValid = true → s.rsp.status = statusOk) :
    (startFrame (encode i) s).Inv := by
  obtain ⟨-, hrx, -, hrc⟩ := hb
  exact {
    txWf := wf_ofBytes _ (length_encode_command hi).le
    rxWf := hrx
    txidxBound := ⟨Nat.zero_le _, fun _ => by simp [Const.cmdLen]⟩
    rxcntBound := ⟨hrc, by simp⟩
    rxAfterFrame := by simp
    frameHeld := fun _ => ⟨i, hwf, hi, hop.symm, rfl⟩
    repliesWritten := by simp
    initExact := by simpa [Phase.busy, hop] using hinit
    responseStands := by simp [hv]
    statusWritten := by simp [hv]
    stageWritten := by simp [hv]
    measurementOk := hpm
    failedShowsError := by simp }

/-- R142, R149: a transaction that is over leaves a response and `init` 0; what the invariant still asks for is about the
response alone. -/
theorem inv_of_ended {t : State} (hb : t.BuffersFit) (hp : t.phase = .ready ∨ t.phase = .failed)
    (hi : t.init = false) (hv : t.rsp.rspValid = true)
    (hs : t.rsp.status = statusOk ∨ t.rsp.status = statusTooLongWorkTime ∨ t.rsp.status = statusBadChecksum ∨
      t.rsp.status = statusTransportError)
    (hstage : t.rsp.status = statusTransportError → t.rsp.terrStage ≠ 3)
    (hpm : t.rsp.pmValid = true → t.rsp.status = statusOk)
    (hf : t.phase = .failed → t.rsp.status = statusBadChecksum ∨ t.rsp.status = statusTransportError) : t.Inv := by
  obtain ⟨htx, hrx, hti, hrc⟩ := hb
  have htx' : t.phase ≠ .tx := by rcases hp with h | h <;> simp [h]
  have hrx' : t.phase ≠ .rx := by rcases hp with h | h <;> simp [h]
  have hbusy : t.phase.busy = false := by rcases hp with h | h <;> simp [h, Phase.busy]
  exact {
    txWf := htx
    rxWf := hrx
    txidxBound := ⟨hti, fun h => absurd h htx'⟩
    rxcntBound := ⟨hrc, fun h => absurd h hrx'⟩
    rxAfterFrame := fun h => absurd h hrx'
    frameHeld := by simp [hbusy]
    repliesWritten := fun h => absurd h hrx'
    initExact := by simp [hi, hbusy]
    responseStands := iff_of_true hv hp
    statusWritten := fun _ => hs
    stageWritten := fun _ => hstage
    measurementOk := hpm
    failedShowsError := hf }

theorem phaseAfterError_eq (init : Bool) : phaseAfterError init = .ready ∨ phaseAfterError init = .failed := by
  cases init
  · exact .inl rfl
  · exact .inr rfl

theorem Stage.code_ne_three (stage : Stage) : stage.code ≠ 3 := by cases stage <;> decide

/-- R170: an error raised, of the three kinds some rule raises, and TOO_LONG_WORK_TIME only outside a construction. -/
theorem raise_inv {s : State} {e : ErrInfo} (hb : s.BuffersFit) (he : e ≠ .emptyDataFrame)
    (hi : e = .tooLongWorkTime → s.init = false) : (raise e s).Inv := by
  refine inv_of_ended hb (phaseAfterError_eq s.init) rfl (ofError_rspValid _ _) ?_ ?_ (by simp) ?_
  · cases e with
    | emptyDataFrame => exact absurd rfl he
    | tooLongWorkTime | badChecksum | transportError => simp [ErrInfo.code]
  · cases e with
    | transportError stage k => exact fun _ => stage.code_ne_three
    | tooLongWorkTime | emptyDataFrame | badChecksum =>
      simp [ErrInfo.code, statusTransportError, statusTooLongWorkTime, statusEmptyDataFrame, statusBadChecksum]
  · cases e with
    | emptyDataFrame => exact absurd rfl he
    | tooLongWorkTime => simp [phaseAfterError, hi rfl]
    | badChecksum | transportError => simp [ErrInfo.code]

/-- R127. -/
theorem respondConfirm_inv {s : State} (hb : s.BuffersFit) : (respondConfirm s).Inv :=
  inv_of_ended hb (.inl rfl) rfl rfl (.inl rfl) (by simp [statusOk, statusTransportError]) (fun _ => rfl) (by simp)

/-- R128. -/
theorem respondMeasurement_inv {s : State} (hb : s.BuffersFit) (pm25 pm10 : Raw) :
    (respondMeasurement pm25 pm10 s).Inv :=
  inv_of_ended hb (.inl rfl) rfl rfl (.inl rfl) (by simp [statusOk, statusTransportError]) (fun _ => rfl) (by simp)

/-- R146: a command byte accepted; the 19th one enters `RX` with an empty count. -/
theorem txAccepted_inv {s : State} (h : s.Inv) (hp : s.phase = .tx) (b : Byte) : (txAccepted b s).Inv := by
  have hlt : s.txidx < Const.cmdLen := h.txidxBound.2 hp
  have hbusy : s.phase.busy = true := by simp [hp, Phase.busy]
  have hv : s.rsp.rspValid ≠ true := by simp [h.responseStands, hp]
  rw [txAccepted_eq]
  by_cases hlast : s.txidx + 1 = Const.cmdLen
  · simp only [hlast, if_true]
    exact {
      h with
      txidxBound := ⟨le_rfl, by simp⟩
      rxcntBound := ⟨Nat.zero_le _, fun _ => by simp [Const.replyLen]⟩
      rxAfterFrame := fun _ => rfl
      frameHeld := fun _ => h.frameHeld hbusy
      repliesWritten := by simp
      initExact := by simpa [hp, Phase.busy] using h.initExact
      responseStands := by simp [hv]
      failedShowsError := by simp }
  · simp only [hlast, if_false]
    exact {
      h with
      txidxBound := ⟨hlt, fun _ => by simp only; omega⟩
      rxAfterFrame := by simp [hp] }

/-- R120: a reply byte stored that does not fill the reply. -/
theorem storeReplyByte_inv {s : State} (h : s.Inv) (hp : s.phase = .rx) (hn : s.rxcnt + 1 < Const.replyLen) (b : Byte) :
    (storeReplyByte b s).Inv :=
  { h with
    rxWf := wf_write b (by omega) s.rx h.rxWf
    rxcntBound := ⟨hn.le, fun _ => hn⟩
    repliesWritten := by
      intro _ j hj
      by_cases hlast : j = s.rxcnt
      · simp [hlast, lookup_write_same]
      · simpa [lookup_write_other s.rx b hlast] using
          h.repliesWritten hp j (Nat.lt_of_le_of_ne (Nat.le_of_lt_succ hj) hlast) }

/-- Settles O38, by the events of a step. -/
theorem everyStepKeepsTheInvariant : Obligations.EveryStepKeepsTheInvariant := by
  intro s t h hstep
  have hb : s.BuffersFit := h.buffersFit
  have hstored (b : Byte) (as : List RxAnswer) (hn : s.rxcnt + 1 = Const.replyLen) :
      (storeReplyByte b (takeRxAnswer as (takeTurn s))).BuffersFit :=
    buffersFit_storeReplyByte (s := takeRxAnswer as (takeTurn s)) hb b (Nat.lt_of_succ_le hn.le)
  cases step_event hstep with
  | none ts ht => subst ht; exact h.withEnv _
  | reset ts _ ht => subst ht; exact resetBlock_inv _
  | hostReads ts f v _ ht => subst ht; exact h.withEnv _
  | openFails ts w more k as _ _ _ _ _ ht => subst ht; exact raise_inv hb (by simp) (by simp)
  | opens ts w more as _ _ _ _ _ ht =>
    subst ht
    rw [frameReportMode_eq_encode]
    exact startFrame_inv rfl (by decide) hb rfl (by simp [Instr.op]) rfl h.measurementOk
  | tooLong ts w more _ _ _ hp _ ht =>
    subst ht
    have hi : s.init = false := by simpa [hp, Phase.busy] using h.initExact
    exact raise_inv hb (by simp) fun _ => hi
  | setsWorkPeriod ts w more _ _ _ _ hl ht =>
    subst ht
    rw [frameWorkPeriod_eq_encode]
    exact startFrame_inv hl (by simp [acceptingPhase]) hb rfl (by simp [Instr.op]) rfl h.measurementOk
  | queries ts w more _ _ _ _ ht =>
    subst ht
    rw [frameQuery_eq_encode]
    exact startFrame_inv rfl (by decide) hb rfl (by simp [Instr.op]) rfl h.measurementOk
  | txAccepted ts b as _ hp _ _ ht =>
    subst ht
    exact txAccepted_inv (s := takeTxAnswer as (takeTurn s)) (h.withEnv _) hp b
  | txFails ts b k as _ _ _ _ ht => subst ht; exact raise_inv hb (by simp) (by simp)
  | rxFails ts k as _ _ _ ht => subst ht; exact raise_inv hb (by simp) (by simp)
  | rxByte ts b as _ hp _ hn ht =>
    subst ht
    exact storeReplyByte_inv (s := takeRxAnswer as (takeTurn s)) (h.withEnv _) hp hn b
  | badChecksum ts b as _ _ _ hn ht =>
    subst ht
    exact raise_inv (hstored b as hn) (by simp) (by simp)
  | confirms ts b as _ _ _ hn _ ht =>
    subst ht
    exact respondConfirm_inv (hstored b as hn)
  | measures ts b as r _ _ _ hn _ _ _ ht =>
    subst ht
    exact respondMeasurement_inv (hstored b as hn) _ _

/-- Settles O39: the state after reset is a reset of itself. -/
theorem invariantHoldsAtReset : Obligations.InvariantHoldsAtReset := resetBlock_inv State.reset

end Sys2Proof.Machine
end

section
/-! PROOFS. The response register as the host sees it: which field carries meaning, what a read of it gives, where it
stands in the packed view (R27, R152), and the registers after a reset (R32, R200). -/

namespace Sys2Proof.Machine

/-! ## A host read -/

/-- R152: when a field of `RSP` carries meaning; `rspValid` always (log entry 4). -/
def Rsp.carriesMeaning (r : Rsp) : RspField → Prop
  | .rspValid => True
  | .status | .pmValid => r.rspValid = true
  | .terrStage | .terr => r.rspValid = true ∧ r.status = statusTransportError
  | .pm25Raw | .pm10Raw => r.rspValid = true ∧ r.pmValid = true

/-- R27: the value of a field of `RSP`. -/
def Rsp.reading (r : Rsp) : RspField → Reading
  | .rspValid => .flag r.rspValid
  | .status => .status r.status
  | .terrStage => .stage r.terrStage
  | .terr => .terr r.terr
  | .pmValid => .flag r.pmValid
  | .pm25Raw => .raw r.pm25Raw
  | .pm10Raw => .raw r.pm10Raw

theorem hostRead_of_meaning {f : RspField} {s : State} (hs : s.rsp.rspValid = true → s.rsp.status ≤ 4)
    (hm : s.rsp.carriesMeaning f) : hostRead f s = .ok (s.rsp.reading f) := by
  cases f with
  | rspValid => simp [hostRead, Rsp.reading]
  | status =>
    have hcode : reservedCode s.rsp.status = false := decide_eq_false (BitVec.not_lt.mpr (hs hm))
    have hv : s.rsp.rspValid = true := hm
    simp [hostRead, Rsp.reading, hv, hcode]
  | pmValid =>
    have hv : s.rsp.rspValid = true := hm
    simp [hostRead, Rsp.reading, hv]
  | terrStage | terr | pm25Raw | pm10Raw =>
    obtain ⟨hv, hc⟩ := hm
    simp [hostRead, Rsp.reading, hv, hc]

theorem hostRead_of_no_meaning {f : RspField} {s : State} (hm : ¬ s.rsp.carriesMeaning f) :
    hostRead f s = .error (.hostRead f) := by
  cases f with
  | rspValid => exact absurd trivial hm
  | status | pmValid =>
    have hv : ¬ s.rsp.rspValid = true := hm
    simp [hostRead, hv]
  | terrStage | terr | pm25Raw | pm10Raw =>
    by_cases hv : s.rsp.rspValid = true
    · have hc : ¬ _ := fun hc => hm ⟨hv, hc⟩
      simp [hostRead, hv, hc]
    · simp [hostRead, hv]

/-- R152: why a field carries no meaning: there is no response, no measurement, or no transport error. -/
theorem not_carriesMeaning_iff {f : RspField} {r : Rsp} : ¬ r.carriesMeaning f ↔
    f ≠ .rspValid ∧ (r.rspValid = false ∨ ((f = .pm25Raw ∨ f = .pm10Raw) ∧ r.pmValid = false) ∨
      ((f = .terrStage ∨ f = .terr) ∧ r.status ≠ 4)) := by
  cases hv : r.rspValid <;> cases f <;> simp [Rsp.carriesMeaning, hv, statusTransportError]

theorem step_read {s : State} {f : RspField} {ts : List Turn} (hs : s.env.schedule = .read f :: ts) :
    step s = readTurn f (takeTurn s) := by
  simp [step, fetch, hs]

theorem step_read_of_meaning {s : State} {f : RspField} {ts : List Turn} (hs : s.env.schedule = .read f :: ts)
    (hc : s.rsp.rspValid = true → s.rsp.status ≤ 4) (hm : s.rsp.carriesMeaning f) :
    step s = .next { s with
      env := { s.env with schedule := ts, readings := s.env.readings ++ [(f, s.rsp.reading f)] } } := by
  have hread : hostRead f (takeTurn s) = .ok (s.rsp.reading f) := hostRead_of_meaning hc hm
  simp only [step_read hs, readTurn, hread]
  simp [noteReading, takeTurn, hs]

theorem step_read_of_no_meaning {s : State} {f : RspField} {ts : List Turn} (hs : s.env.schedule = .read f :: ts)
    (hm : ¬ s.rsp.carriesMeaning f) : step s = .fault (.hostRead f) := by
  have hread : hostRead f (takeTurn s) = .error (.hostRead f) := hostRead_of_no_meaning hm
  simp only [step_read hs, readTurn, hread]

/-- Settles O54: a read is noted or is a fault, as the field carries meaning or not. -/
theorem hostReadsWhatCarriesMeaning : Obligations.HostReadsWhatCarriesMeaning := by
  intro s ts f hs hc
  refine ⟨fun hf hv => ?_, fun hf hv => ?_, fun hf hst => ?_, fun hv hpm hst => ?_⟩
  · exact step_read_of_no_meaning hs (not_carriesMeaning_iff.mpr ⟨hf, .inl hv⟩)
  · refine step_read_of_no_meaning hs (not_carriesMeaning_iff.mpr ⟨?_, .inr (.inl ⟨hf, hv⟩)⟩)
    rcases hf with rfl | rfl <;> simp
  · refine step_read_of_no_meaning hs (not_carriesMeaning_iff.mpr ⟨?_, .inr (.inr ⟨hf, hst⟩)⟩)
    rcases hf with rfl | rfl <;> simp
  · have hm : s.rsp.carriesMeaning f := by
      by_contra hm
      obtain ⟨hf, h | ⟨hpmField, h⟩ | ⟨hterr, h⟩⟩ := not_carriesMeaning_iff.mp hm
      · simp [hf, h] at hv
      · simp [hpm hpmField] at h
      · exact h (hst hterr)
    refine ⟨s.rsp.reading f, step_read_of_meaning hs (fun _ => hc) hm, ?_⟩
    refine ⟨?_, ?_, ?_, ?_, ?_, ?_, ?_⟩ <;> rintro rfl <;> rfl

/-! ## The packed view -/

/-- Settles O57: a field is the lowest part of the word once the fields below it are dropped. -/
theorem packedViewLayout : Obligations.PackedViewLayout := by
  intro r
  unfold Rsp.packed
  refine ⟨?status, ?stage, ?pmValid, ?rspValid, ?bit7, ?pm25, ?pm10⟩
  case status => exact BitVec.extractLsb'_append_eq_right
  case stage =>
    rw [BitVec.extractLsb'_append_eq_of_le (by decide)]
    exact BitVec.extractLsb'_append_eq_right
  case pm25 =>
    iterate 5 rw [BitVec.extractLsb'_append_eq_of_le (by decide)]
    exact BitVec.extractLsb'_append_eq_right
  case pm10 =>
    iterate 6 rw [BitVec.extractLsb'_append_eq_of_le (by decide)]
    exact BitVec.extractLsb'_eq_self
  case pmValid | rspValid | bit7 =>
    simp only [BitVec.getLsbD_append]
    simp [bitOf]

/-! ## Reset -/

/-- Settles O36: a reset turn answers the reset block, whose buffers are empty and whose `RSP` has no response. -/
theorem resetSetsTheTable : Obligations.ResetSetsTheTable := by
  intro s ts hs
  have hstep : step s = .next (resetBlock (takeTurn s)) := by simp [step, fetch, hs]
  refine ⟨_, hstep, rfl, rfl, rfl, rfl, rfl, rfl, fun j hj => ?_, fun j hj => ?_, fun f hf => ?_⟩
  · simp [readByte, Buffer.size, Const.cmdLen, hj, State.buffer, Memory.lookup]
  · simp [readByte, Buffer.size, Const.replyLen, hj, State.buffer, Memory.lookup]
  · exact hostRead_of_no_meaning (not_carriesMeaning_iff.mpr ⟨hf, .inl rfl⟩)

/-- Settles O37: the values as the table gives them, and two empty buffers. -/
theorem resetStateHasTheTablesValues : Obligations.ResetStateHasTheTablesValues :=
  ⟨rfl, rfl, rfl, rfl, rfl, rfl, wf_nil 19, wf_nil 10, fun _ => rfl, fun _ => rfl⟩

end Sys2Proof.Machine
end

section
/-! PROOFS. What one step can do to the phase, the command buffer, the response and the raw fields: each statement goes
through the events of a step. -/

namespace Sys2Proof.Machine

/-! ## A transaction that is over -/

/-- R142, R149: a transaction is over: a response stands in `READY` or `FAILED`. -/
def State.Ended (t : State) : Prop := t.rsp.rspValid = true ∧ (t.phase = .ready ∨ t.phase = .failed)

theorem raise_ended (e : ErrInfo) (s : State) : (raise e s).Ended :=
  ⟨ofError_rspValid _ _, phaseAfterError_eq s.init⟩

theorem respondConfirm_ended (s : State) : (respondConfirm s).Ended := ⟨rfl, .inl rfl⟩

theorem respondMeasurement_ended (pm25 pm10 : Raw) (s : State) : (respondMeasurement pm25 pm10 s).Ended :=
  ⟨rfl, .inl rfl⟩

/-! ## An accepted command byte -/

@[simp] theorem txAccepted_tx (b : Byte) (s : State) : (txAccepted b s).tx = s.tx := by rw [txAccepted_eq]
@[simp] theorem txAccepted_txidx (b : Byte) (s : State) : (txAccepted b s).txidx = s.txidx + 1 := by rw [txAccepted_eq]
@[simp] theorem txAccepted_rsp (b : Byte) (s : State) : (txAccepted b s).rsp = s.rsp := by rw [txAccepted_eq]

/-- R146: the 19th byte, and no other, leaves the phase. -/
@[simp] theorem txAccepted_phase (b : Byte) (s : State) :
    (txAccepted b s).phase = if s.txidx + 1 = Const.cmdLen then .rx else s.phase := by
  rw [txAccepted_eq]

/-! ## The statements -/

/-- Settles O41: every event but a reset and those that leave the block alone happens in another phase. -/
theorem failedLeftOnlyByReset : Obligations.FailedLeftOnlyByReset := by
  intro s t hfailed hstep hreset
  cases step_event hstep
  case none ts ht _ => subst ht; rfl
  case reset ts hs _ => exact absurd (by simp [hs]) hreset
  case hostReads ts f v _ ht => subst ht; rfl
  all_goals cases hfailed.symm.trans ‹s.phase = _›

/-- Settles O45: in `TX` only an accepted byte moves `txidx`, and no event writes `TX`. -/
theorem commandBufferStableWhileSent : Obligations.CommandBufferStableWhileSent := by
  intro s t htx hstep hreset
  cases step_event hstep
  case none ts ht _ => subst ht; exact ⟨rfl, .inl rfl⟩
  case reset ts hs _ => exact absurd (by simp [hs]) hreset
  case hostReads ts f v _ ht => subst ht; exact ⟨rfl, .inl rfl⟩
  case txAccepted ts b as _ _ _ ha ht => subst ht; exact ⟨by simp, .inr ⟨by simp, by simp [ha]⟩⟩
  case txFails ts b k as _ _ _ _ ht => subst ht; exact ⟨rfl, .inl rfl⟩
  all_goals cases htx.symm.trans ‹s.phase = _›

/-- Settles O46: the events that write `RSP` start a transaction, end it on the transport's turn, or accept a request
and end it at once. -/
theorem responseWrittenOnlyAtAnEnd : Obligations.ResponseWrittenOnlyAtAnEnd := by
  intro s t hstep hreset
  cases step_event hstep with
  | none ts ht _ => subst ht; exact .inl rfl
  | reset ts hs _ => exact absurd (by simp [hs]) hreset
  | hostReads ts f v _ ht => subst ht; exact .inl rfl
  | openFails ts w more k as hs hh _ hp _ ht =>
    subst ht
    obtain ⟨hv, hend⟩ := raise_ended (.transportError .opening k) (beginConstruction as (takeTurn s))
    exact .inr (.inr ⟨hv, hend, .inr ⟨by simp [hs], .inl ⟨hp, rfl⟩, w, by simp [hh]⟩⟩)
  | opens ts w more as hs hh _ hp _ ht =>
    subst ht
    exact .inr (.inl ⟨rfl, .inl hp, rfl, by simp [hs], w, by simp [hh]⟩)
  | tooLong ts w more hs hh _ hp _ ht =>
    subst ht
    obtain ⟨hv, hend⟩ := raise_ended .tooLongWorkTime (accept (takeTurn s))
    exact .inr (.inr ⟨hv, hend, .inr ⟨by simp [hs], .inr ⟨hp, rfl⟩, w, by simp [hh]⟩⟩)
  | setsWorkPeriod ts w more hs hh _ hp _ ht | queries ts w more hs hh _ hp ht =>
    subst ht
    exact .inr (.inl ⟨rfl, .inr hp, rfl, by simp [hs], w, by simp [hh]⟩)
  | txAccepted ts b as _ _ _ _ ht => subst ht; exact .inl (by simp)
  | rxByte ts b as _ _ _ _ ht => subst ht; exact .inl rfl
  | txFails ts b k as hs hp _ _ ht | rxFails ts k as hs hp _ ht | badChecksum ts b as hs hp _ _ ht =>
    obtain ⟨hv, hend⟩ : t.Ended := ht ▸ raise_ended _ _
    exact .inr (.inr ⟨hv, hend, .inl ⟨by simp [hp, Phase.busy], by simp [hs]⟩⟩)
  | confirms ts b as hs hp _ _ _ ht =>
    obtain ⟨hv, hend⟩ : t.Ended := ht ▸ respondConfirm_ended _
    exact .inr (.inr ⟨hv, hend, .inl ⟨by simp [hp, Phase.busy], by simp [hs]⟩⟩)
  | measures ts b as r hs hp _ _ _ _ _ ht =>
    obtain ⟨hv, hend⟩ : t.Ended := ht ▸ respondMeasurement_ended _ _ _
    exact .inr (.inr ⟨hv, hend, .inl ⟨by simp [hp, Phase.busy], by simp [hs]⟩⟩)

/-- Settles O47: of the events only a valid measurement writes a raw field. -/
theorem rawFieldsWrittenOnlyByQuery : Obligations.RawFieldsWrittenOnlyByQuery := by
  intro s t hstep hreset hraw
  cases step_event hstep
  case reset ts hs _ => exact absurd (by simp [hs]) hreset
  case measures ts b as r _ hp _ hn ho _ _ ht =>
    subst ht
    exact ⟨hp, ho, Nat.succ.inj hn, rfl, rfl, rfl⟩
  all_goals
    subst t
    simp [State.withSchedule] at hraw

/-- Settles O40: the events that change the phase, each under its own agent's turn. -/
theorem phaseChangesAsTheTableSays : Obligations.PhaseChangesAsTheTableSays := by
  intro s t h hstep hne
  cases step_event hstep with
  | none ts ht _ => subst ht; exact absurd rfl hne
  | reset ts hs ht => subst ht; exact .inl ⟨ts, hs, rfl⟩
  | hostReads ts f v _ ht => subst ht; exact absurd rfl hne
  | openFails ts w more k as hs hh hw hp _ ht =>
    subst ht
    exact .inr (.inl ⟨ts, w, more, hs, hh, .inl ⟨hp, hw, .inr rfl⟩⟩)
  | opens ts w more as hs hh hw hp _ ht =>
    subst ht
    exact .inr (.inl ⟨ts, w, more, hs, hh, .inl ⟨hp, hw, .inl rfl⟩⟩)
  | tooLong ts w more _ _ _ hp _ ht =>
    subst ht
    have hi : s.init = false := by simpa [hp, Phase.busy] using h.initExact
    exact absurd (by simp [hi, hp, phaseAfterError]) hne
  | setsWorkPeriod ts w more hs hh hw hp _ ht =>
    subst ht
    exact .inr (.inl ⟨ts, w, more, hs, hh, .inr ⟨hp, .inl hw, rfl⟩⟩)
  | queries ts w more hs hh hw hp ht =>
    subst ht
    exact .inr (.inl ⟨ts, w, more, hs, hh, .inr ⟨hp, .inr hw, rfl⟩⟩)
  | txAccepted ts b as hs hp _ ha ht =>
    subst ht
    by_cases hlast : s.txidx + 1 = Const.cmdLen
    · exact .inr (.inr ⟨ts, hs, .inl ⟨hp, by simp [hlast], Nat.succ.inj hlast, by simp [ha]⟩⟩)
    · exact absurd (by simp [hlast]) hne
  | txFails ts b k as hs hp _ ha ht =>
    subst ht
    exact .inr (.inr ⟨ts, hs, .inr (.inl ⟨hp, (raise_ended _ _).2, k, by simp [ha]⟩)⟩)
  | rxFails ts k as hs hp ha ht =>
    subst ht
    exact .inr (.inr ⟨ts, hs, .inr (.inr ⟨hp, (raise_ended _ _).2, .inl ⟨k, by simp [ha]⟩⟩)⟩)
  | rxByte ts b as _ _ _ _ ht => subst ht; exact absurd rfl hne
  | badChecksum ts b as hs hp ha hn ht =>
    subst ht
    exact .inr (.inr ⟨ts, hs, .inr (.inr ⟨hp, (raise_ended _ _).2, .inr ⟨Nat.succ.inj hn, b, by simp [ha]⟩⟩)⟩)
  | confirms ts b as hs hp ha hn _ ht =>
    subst ht
    exact .inr (.inr ⟨ts, hs, .inr (.inr ⟨hp, .inl rfl, .inr ⟨Nat.succ.inj hn, b, by simp [ha]⟩⟩)⟩)
  | measures ts b as r hs hp ha hn _ _ _ ht =>
    subst ht
    exact .inr (.inr ⟨ts, hs, .inr (.inr ⟨hp, .inl rfl, .inr ⟨Nat.succ.inj hn, b, by simp [ha]⟩⟩)⟩)

end Sys2Proof.Machine
end

section
/-! PROOFS. Progress: from a state with the invariant every turn of the transport answers a next state, so that only a host
read can fault (R32, R152), and a transaction whose every call is answered ends (R62). -/

namespace Sys2Proof.Machine

/-! ## The buffers are read only where they are written -/

/-- R104: in phase `TX` the byte on offer can be read. -/
theorem State.Inv.offeredByte {s : State} (h : s.Inv) (hp : s.phase = .tx) : ∃ b, readByte .tx s.txidx s = .ok b := by
  obtain ⟨i, -, hi, -, htx⟩ := h.frameHeld (by simp [hp, Phase.busy])
  exact ⟨_, readByte_tx_of_holds hi htx (h.txidxBound.2 hp)⟩

/-- The reply a buffer holds, with 0 for a byte that is not written. -/
def Memory.reply (m : Memory) : ReplyFrame :=
  ⟨(m.lookup 0).getD 0, (m.lookup 1).getD 0, (m.lookup 2).getD 0, (m.lookup 3).getD 0, (m.lookup 4).getD 0,
    (m.lookup 5).getD 0, (m.lookup 6).getD 0, (m.lookup 7).getD 0, (m.lookup 8).getD 0, (m.lookup 9).getD 0⟩

theorem readReply_of_written {s : State} (h : ∀ j < Const.replyLen, (s.rx.lookup j).isSome = true) :
    readReply s = .ok s.rx.reply := by
  have hread : ∀ j < 10, s.rx.lookup j = some ((s.rx.lookup j).getD 0) := by
    intro j hj
    obtain ⟨b, hb⟩ := Option.isSome_iff_exists.mp (h j hj)
    simp [hb]
  refine readReply_of fun j hj => ?_
  rw [hread j hj]
  interval_cases j <;> rfl

/-- R23, R120: in phase `RX` the tenth byte fills the reply. -/
theorem State.Inv.filledReply {s : State} (h : s.Inv) (hp : s.phase = .rx) (hn : s.rxcnt + 1 = Const.replyLen)
    (b : Byte) :
    ∃ r, readReply (storeReplyByte b s) = .ok r := by
  refine ⟨_, readReply_of_written fun j hj => ?_⟩
  by_cases hlast : j = s.rxcnt
  · simp [hlast, lookup_write_same]
  · simpa [lookup_write_other s.rx b hlast] using h.repliesWritten hp j (by omega)

/-! ## Turns that answer a next state -/

theorem txTurn_of_readByte {s : State} {b : Byte} (hb : readByte .tx s.txidx s = .ok b) : ∃ t, txTurn s = .next t := by
  simp only [txTurn, hb]
  split <;> exact ⟨_, rfl⟩

/-- A reply executed ends the transaction and leaves the environment. -/
theorem exec_replyInstr_ended {op : Op} {r : ReplyFrame} {s t : State} (h : exec (replyInstr op r) s = .next t) :
    t.Ended ∧ t.env = s.env := by
  rw [exec_replyInstr] at h
  injection h with h
  subst h
  split
  · split
    · exact ⟨respondMeasurement_ended _ _ _, rfl⟩
    · exact ⟨respondConfirm_ended _, rfl⟩
  · exact ⟨raise_ended _ _, rfl⟩

/-- R148, R120: a turn of the transport in phase `RX` is a next state, or a reply to execute. -/
theorem rxTurn_cases {s : State} (h : s.Inv) (hp : s.phase = .rx) :
    (∃ t, rxTurn s = .answer (.next t)) ∨ ∃ op r t, rxTurn s = .run (replyInstr op r) t := by
  have hroom : s.rxcnt < Const.replyLen := h.rxcntBound.2 hp
  unfold rxTurn
  split
  · exact .inl ⟨_, rfl⟩
  · rename_i b rest _
    simp only [capture, takeRxAnswer_rxcnt, hroom, if_true]
    by_cases hn : s.rxcnt + 1 = Const.replyLen
    · obtain ⟨r, hr⟩ := State.Inv.filledReply (s := takeRxAnswer rest s) (h.withEnv _) hp hn b
      simp only [hn, if_true, fetchReply, hr]
      exact .inr ⟨_, _, _, rfl⟩
    · simp only [hn, if_false]
      exact .inl ⟨_, rfl⟩
  · exact .inl ⟨_, rfl⟩

/-- R32: from a state with the invariant no turn of the transport faults. -/
theorem step_transport_next {s : State} {ts : List Turn} (h : s.Inv) (hs : s.env.schedule = .transport :: ts) :
    ∃ t, step s = .next t := by
  have h' : (takeTurn s).Inv := h.withEnv _
  simp only [step, fetch, hs, transportTurn, takeTurn_phase]
  cases hp : s.phase with
  | unopened | ready | failed => exact ⟨_, rfl⟩
  | tx =>
    obtain ⟨b, hb⟩ := h'.offeredByte hp
    exact txTurn_of_readByte hb
  | rx =>
    obtain ⟨t, ht⟩ | ⟨op, r, t, ht⟩ := rxTurn_cases h' hp
    · simp only [ht]
      exact ⟨t, rfl⟩
    · simp only [ht, exec_replyInstr]
      exact ⟨_, rfl⟩

/-- R143: a host's turn is a next state or a refusal. -/
theorem step_host_no_fault {s : State} {ts : List Turn} (hs : s.env.schedule = .host :: ts) (f : Fault) :
    step s ≠ .fault f := by
  simp only [step, fetch, hs, hostTurn, takeTurn_env_host]
  cases s.env.host with
  | nil => simp
  | cons w more =>
    simp only [judge]
    cases decodeRequest w with
    | error e => simp
    | ok i => exact exec_no_fault i _ f

/-- R171: a response's status is a code that is not reserved. -/
theorem State.Inv.status_le {s : State} (h : s.Inv) (hv : s.rsp.rspValid = true) : s.rsp.status ≤ 4 := by
  rcases h.statusWritten hv with hs | hs | hs | hs <;> rw [hs] <;> decide

/-- Settles O48: the turns of the host and of the transport never fault, and a read does so on a field without
meaning. -/
theorem onlyTheHostCanFault : Obligations.OnlyTheHostCanFault := by
  intro s f h hstep
  cases hs : s.env.schedule with
  | nil => simp [step, fetch, hs] at hstep
  | cons turn ts =>
    cases turn with
    | reset => simp [step, fetch, hs] at hstep
    | host => exact absurd hstep (step_host_no_fault hs f)
    | transport =>
      obtain ⟨t, ht⟩ := step_transport_next h hs
      simp [ht] at hstep
    | read fld =>
      by_cases hm : s.rsp.carriesMeaning fld
      · simp [step_read_of_meaning hs h.status_le hm] at hstep
      · rw [step_read_of_no_meaning hs hm] at hstep
        injection hstep with hstep
        exact ⟨ts, fld, hstep.symm, rfl, not_carriesMeaning_iff.mp hm⟩

/-! ## A transaction whose every call is answered -/

/-- R62: `n` turns of the transport end the transaction, its answers being there: one turn for each of the 19 bytes still
to send and each of the 10 still to receive. -/
def State.EndsWithin (n : Nat) (s : State) : Prop :=
  match s.phase with
  | .unopened => False
  | .tx => 19 - s.txidx + 10 ≤ n ∧ 19 - s.txidx ≤ s.env.txAns.length ∧ 10 ≤ s.env.rxAns.length
  | .rx => 10 - s.rxcnt ≤ n ∧ 10 - s.rxcnt ≤ s.env.rxAns.length
  | .ready | .failed => True

theorem endsWithin_tx {n : Nat} {s : State} (hp : s.phase = .tx) : s.EndsWithin n ↔
    19 - s.txidx + 10 ≤ n ∧ 19 - s.txidx ≤ s.env.txAns.length ∧ 10 ≤ s.env.rxAns.length := by
  simp [State.EndsWithin, hp]

theorem endsWithin_rx {n : Nat} {s : State} (hp : s.phase = .rx) : s.EndsWithin n ↔
    10 - s.rxcnt ≤ n ∧ 10 - s.rxcnt ≤ s.env.rxAns.length := by
  simp [State.EndsWithin, hp]

theorem endsWithin_idle {n : Nat} {s : State} (hp : s.phase.busy = false) : s.EndsWithin n ↔ s.phase ≠ .unopened := by
  cases hq : s.phase <;> simp_all [State.EndsWithin, Phase.busy]

theorem State.Ended.endsWithin {s : State} (h : s.Ended) (n : Nat) : s.EndsWithin n := by
  rcases h.2 with hp | hp <;> simp [State.EndsWithin, hp]

theorem State.Inv.txidx_lt {s : State} (h : s.Inv) (hp : s.phase = .tx) : s.txidx < 19 := h.txidxBound.2 hp

theorem State.Inv.rxcnt_lt {s : State} (h : s.Inv) (hp : s.phase = .rx) : s.rxcnt < 10 := h.rxcntBound.2 hp

/-- With no turn left nothing is left to do. -/
theorem State.Inv.ended_of_endsWithin_zero {s : State} (h : s.Inv) (hw : s.EndsWithin 0) : s.Ended := by
  have hend : s.phase = .ready ∨ s.phase = .failed := by
    cases hp : s.phase with
    | unopened => simp [State.EndsWithin, hp] at hw
    | tx =>
      obtain ⟨hn, -⟩ := (endsWithin_tx hp).mp hw
      omega
    | rx =>
      obtain ⟨hn, -⟩ := (endsWithin_rx hp).mp hw
      have hroom := h.rxcnt_lt hp
      omega
    | ready => exact .inl rfl
    | failed => exact .inr rfl
  exact ⟨h.responseStands.mpr hend, hend⟩

/-- An accepted command byte is one turn fewer. -/
theorem txAccepted_endsWithin {n : Nat} {s : State} (h : s.Inv) (hp : s.phase = .tx) (b : Byte) {as : List TxAnswer}
    (ha : s.env.txAns = .accepted :: as) (hw : s.EndsWithin (n + 1)) :
    (txAccepted b (takeTxAnswer as s)).EndsWithin n := by
  have hlt := h.txidx_lt hp
  rw [endsWithin_tx hp, ha, List.length_cons] at hw
  by_cases hlast : s.txidx + 1 = 19
  · rw [endsWithin_rx (by simp [hlast, Const.cmdLen])]
    simp only [txAccepted_eq, takeTxAnswer_txidx, takeTxAnswer_env_rxAns, hlast, Const.cmdLen, if_true]
    omega
  · rw [endsWithin_tx (by simp [hlast, hp, Const.cmdLen])]
    simp only [txAccepted_eq, takeTxAnswer_txidx, takeTxAnswer_env_txAns, takeTxAnswer_env_rxAns]
    omega

/-- A stored reply byte is one turn fewer. -/
theorem storeReplyByte_endsWithin {n : Nat} {s : State} (hp : s.phase = .rx) (b : Byte) {a : RxAnswer}
    {as : List RxAnswer} (ha : s.env.rxAns = a :: as) (hw : s.EndsWithin (n + 1)) :
    (storeReplyByte b (takeRxAnswer as s)).EndsWithin n := by
  rw [endsWithin_rx hp, ha, List.length_cons] at hw
  have hp' : (storeReplyByte b (takeRxAnswer as s)).phase = .rx := hp
  rw [endsWithin_rx hp']
  simp only [storeReplyByte_rxcnt, storeReplyByte_env, takeRxAnswer_rxcnt, takeRxAnswer_env_rxAns]
  omega

/-- A turn of the transport takes its answer and brings the end one turn nearer. -/
theorem step_transport_endsWithin {n : Nat} {s t : State} {ts : List Turn} (h : s.Inv)
    (hs : s.env.schedule = .transport :: ts) (hw : s.EndsWithin (n + 1)) (hstep : step s = .next t) :
    t.EndsWithin n ∧ t.env.schedule = ts := by
  cases step_cases hstep with
  | idle hs' | reset _ hs' | hostIdle _ hs' | hostReads _ _ _ hs' | request _ _ _ _ hs' => simp [hs] at hs'
  | transportIdle rest _ hp ht =>
    subst ht
    exact ⟨(endsWithin_idle hp).mpr ((endsWithin_idle hp).mp hw), by simp [hs]⟩
  | tx rest _ hp htx =>
    obtain ⟨b, -, ⟨ha, -⟩ | ⟨as, ha, ht⟩ | ⟨k, as, -, ht⟩⟩ := txTurn_next htx
    · have hlt := h.txidx_lt hp
      have hlen : s.env.txAns.length = 0 := List.length_eq_zero_iff.mpr ha
      obtain ⟨-, hta, -⟩ := (endsWithin_tx hp).mp hw
      omega
    · subst ht
      exact ⟨txAccepted_endsWithin (s := takeTurn s) (h.withEnv _) hp b ha hw, by simp [txAccepted_eq, hs]⟩
    · subst ht
      exact ⟨(raise_ended _ _).endsWithin n, by simp [hs]⟩
  | rxIdle rest _ hp ha ht =>
    have hlt := h.rxcnt_lt hp
    have hlen : s.env.rxAns.length = 0 := List.length_eq_zero_iff.mpr ha
    obtain ⟨-, hra⟩ := (endsWithin_rx hp).mp hw
    omega
  | rxFails rest k as _ hp ha ht =>
    subst ht
    exact ⟨(raise_ended _ _).endsWithin n, by simp [hs]⟩
  | rxByte rest b as _ hp ha hn ht =>
    subst ht
    exact ⟨storeReplyByte_endsWithin (s := takeTurn s) hp b ha hw, by simp [hs]⟩
  | rxLast rest b as r _ hp ha hn hr he =>
    obtain ⟨hend, henv⟩ := exec_replyInstr_ended he
    exact ⟨hend.endsWithin n, by simp [henv, hs]⟩

/-- R62: with its answers there, `n` turns of the transport end a transaction. -/
theorem run_transport_ends {n : Nat} {s : State} (h : s.Inv) (hw : s.EndsWithin n)
    (hs : s.env.schedule = List.replicate n .transport) : ∃ t, run n s = .next t ∧ t.Ended := by
  induction n generalizing s with
  | zero => exact ⟨s, rfl, h.ended_of_endsWithin_zero hw⟩
  | succ n ih =>
    obtain ⟨u, hu⟩ := step_transport_next h hs
    obtain ⟨hw', hs'⟩ := step_transport_endsWithin h hs hw hu
    simpa [run, hu] using ih (everyStepKeepsTheInvariant s u h hu) hw' hs'

/-- Settles O51: 19 bytes to send and 10 to receive are at most 29 turns. -/
theorem answeredTransactionEnds : Obligations.AnsweredTransactionEnds := by
  intro s h hbusy htx hrx hs
  have hw : s.EndsWithin 29 := by
    cases hp : s.phase with
    | tx => exact (endsWithin_tx hp).mpr (by omega)
    | rx => exact (endsWithin_rx hp).mpr (by omega)
    | unopened | ready | failed => simp [hp, Phase.busy] at hbusy
  exact run_transport_ends h hw hs

end Sys2Proof.Machine
end

section
/-! PROOFS. The three commands: every next state of one is the state given, an error raised on accepting the request, or the
command's frame started; their frame (R27, R28, R104, R170) and what the host may read meanwhile (R209). -/

namespace Sys2Proof.Machine

/-! ## Every next state of a command -/

/-- R143: the request at the head of the host's requests accepted, with `op`, `init` and the open outcomes left over as
given: what `accept`, `beginConstruction` and `beginOrdinary` have in common. -/
def acceptAs (op : Op) (init : Bool) (os : List OpenAnswer) (s : State) : State :=
  { accept s with op := op, init := init, env := { (accept s).env with openAns := os } }

theorem accept_eq_acceptAs (s : State) : accept s = acceptAs s.op s.init s.env.openAns s := rfl

theorem beginConstruction_eq_acceptAs (os : List OpenAnswer) (s : State) :
    beginConstruction os s = acceptAs .reportMode true os s := rfl

theorem beginOrdinary_eq_acceptAs (op : Op) (s : State) :
    beginOrdinary op s = acceptAs op false s.env.openAns s := rfl

theorem not_starts_of_busy {i : Instr} {s : State} (hb : s.phase.busy = true) : ¬ starts i s := by
  cases i <;> cases hp : s.phase <;> simp_all [starts, Phase.busy]

/-- What a command makes of a state: nothing, an error on accepting the request, or its frame started. -/
inductive CommandCase (i : Instr) (s t : State) : Prop where
  /-- The request is held, or waits for the open outcome. -/
  | waits (hn : ¬ starts i s) (ht : t = s)
  /-- The request is accepted and ends at once with an error; only OPEN writes `op`. -/
  | fails (e : ErrInfo) (op : Op) (init : Bool) (os : List OpenAnswer) (hb : s.phase.busy = false) (hn : ¬ starts i s)
      (hop : i ≠ .setReportMode → op = s.op) (ht : t = raise e (acceptAs op init os s))
  /-- The transaction starts. -/
  | begins (init : Bool) (os : List OpenAnswer) (hb : s.phase.busy = false) (hi : starts i s)
      (ht : t = startFrame (encode i) (acceptAs i.op init os s))

/-- A next state of a command is one of the cases of `CommandCase`. -/
theorem command_cases {i : Instr} {s t : State} (hi : acceptingPhase i ≠ .rx) (h : exec i s = .next t) :
    CommandCase i s t := by
  cases i with
  | setReportMode =>
    obtain ⟨hb, ht⟩ | ⟨_, ha, ht⟩ | ⟨k, os, hp, ha, ht⟩ | ⟨os, hp, ha, ht⟩ := execSetReportMode_next h
    · exact .waits (not_starts_of_busy hb) ht
    · exact .waits (by simp [starts, ha]) ht
    · exact .fails _ _ _ os (by simp [hp, Phase.busy]) (by simp [starts, ha]) (by simp) ht
    · rw [frameReportMode_eq_encode] at ht
      exact .begins _ os (by simp [hp, Phase.busy]) ⟨hp, by simp [ha]⟩ ht
  | query =>
    obtain ⟨hb, ht⟩ | ⟨hp, ht⟩ := execQuery_next h
    · exact .waits (not_starts_of_busy hb) ht
    · rw [frameQuery_eq_encode] at ht
      exact .begins _ _ (by simp [hp, Phase.busy]) hp ht
  | setWorkPeriod m =>
    obtain ⟨hb, ht⟩ | ⟨hp, hl, ht⟩ | ⟨hp, hl, ht⟩ := execSetWorkPeriod_next h
    · exact .waits (not_starts_of_busy hb) ht
    · have hlong : ¬ m.toNat ≤ 30 := by simp [← legalPeriod_iff, hl]
      exact .fails _ _ _ _ (by simp [hp, Phase.busy]) (fun hs => hlong hs.2) (fun _ => rfl) ht
    · rw [frameWorkPeriod_eq_encode] at ht
      exact .begins _ _ (by simp [hp, Phase.busy]) ⟨hp, (legalPeriod_iff m).mp hl⟩ ht
  | replyConfirm r | replyMeasurement r => exact absurd rfl hi

/-! ## The statements -/

/-- Settles O26, by the cases of a command. -/
theorem commandsLeaveTheRest : Obligations.CommandsLeaveTheRest := by
  intro i s t hi h
  have hcmd : acceptingPhase i ≠ .rx := by rcases hi with rfl | rfl | ⟨m, rfl⟩ <;> simp [acceptingPhase]
  cases command_cases hcmd h with
  | waits hn ht =>
    subst ht
    exact ⟨fun _ => rfl, fun hs => absurd hs hn, fun _ => ⟨rfl, fun _ => rfl⟩, fun hs => absurd hs hn, fun _ => rfl,
      fun _ _ => rfl, rfl, rfl, rfl, fun _ => ⟨rfl, rfl⟩, fun hv => by simp [← hv], rfl, rfl, rfl, rfl, rfl⟩
  | fails e op init os hb hn hop ht =>
    subst ht
    refine ⟨fun _ => rfl, fun hs => absurd hs hn, fun _ => ⟨rfl, fun _ => rfl⟩, fun hs => absurd hs hn,
      by simp [hb], fun hi _ => hop hi, rfl, by simp [acceptAs], by simp [acceptAs], fun hno => ?_, by simp,
      rfl, rfl, rfl, rfl, rfl⟩
    cases e with
    | transportError stage k => exact absurd ⟨rfl, rfl⟩ hno
    | tooLongWorkTime | emptyDataFrame | badChecksum => exact ⟨rfl, rfl⟩
  | begins init os hb hs ht =>
    subst ht
    exact ⟨fun _ => rfl, fun _ => ⟨rfl, fun j hj => readByte_tx_of_holds hcmd rfl hj⟩, fun hn => absurd hs hn,
      fun _ => rfl, by simp [hb], fun _ hn => absurd hs hn, rfl, rfl, rfl, fun _ => ⟨rfl, rfl⟩, fun _ => rfl, rfl, rfl,
      rfl, rfl, rfl⟩

/-- Only a command starts a transaction. -/
theorem command_of_starts {i : Instr} {s : State} (hs : starts i s) : acceptingPhase i ≠ .rx := by
  cases i with
  | setReportMode | query | setWorkPeriod m => simp [acceptingPhase]
  | replyConfirm r | replyMeasurement r => exact hs.elim

/-- Settles O55: a start clears `rsp_valid`, and where no response stands only `rsp_valid` carries meaning. -/
theorem earlyReadGivesNothing : Obligations.EarlyReadGivesNothing := by
  refine ⟨fun i s t hs h => ?_, fun s ts f h hp hsched => ?_⟩
  · cases command_cases (command_of_starts hs) h with
    | waits hn _ => exact absurd hs hn
    | fails e op init os _ hn _ _ => exact absurd hs hn
    | begins init os _ _ ht => subst ht; exact ⟨rfl, rfl⟩
  · have hv : s.rsp.rspValid = false := by
      have hnot : ¬ (s.phase = .ready ∨ s.phase = .failed) := by
        rcases hp with hp | hp
        · cases hq : s.phase <;> simp [hq, Phase.busy] at hp ⊢
        · simp [hp]
      exact Bool.eq_false_iff.mpr fun hv => hnot (h.responseStands.mp hv)
    refine ⟨fun hf => ?_, ?_⟩
    · exact step_read_of_no_meaning hsched (not_carriesMeaning_iff.mpr ⟨hf, .inl hv⟩)
    · rintro rfl
      simpa [Rsp.reading, hv] using step_read_of_meaning hsched h.status_le trivial

end Sys2Proof.Machine
end

section
/-! PROOFS. The bytes on the transport (R50 to R63): a command byte goes out only in phase `TX`, a reply byte is taken only
in phase `RX` and stored where it belongs, and a write without an answer holds the block and every request. -/

namespace Sys2Proof.Machine

/-! ## Bytes out and answers in -/

@[simp] theorem txAccepted_env_sent (b : Byte) (s : State) : (txAccepted b s).env.sent = s.env.sent ++ [b] := by
  rw [txAccepted_eq]

@[simp] theorem txAccepted_env_rxAns (b : Byte) (s : State) : (txAccepted b s).env.rxAns = s.env.rxAns := by
  rw [txAccepted_eq]

/-- Settles O43: of the events only an accepted command byte adds to what was sent. -/
theorem bytesGoOutInIndexOrder : Obligations.BytesGoOutInIndexOrder := by
  intro s t hstep hsent
  cases step_event hstep
  case txAccepted ts b as _ hp hb _ ht =>
    subst ht
    exact ⟨hp, b, hb, by simp, by simp, by simp, by simp⟩
  all_goals exact absurd (by subst t; rfl) hsent

/-- Settles O44: of the events only a failed read and a reply byte, the tenth or another, take an inbound answer. -/
theorem repliesTakenOneByOne : Obligations.RepliesTakenOneByOne := by
  intro s t hstep htaken
  cases step_event hstep
  case rxFails ts k as _ hp ha ht =>
    subst ht
    exact ⟨hp, .failed k, ha, by simp⟩
  case rxByte ts b as _ hp ha _ ht | badChecksum ts b as _ hp ha _ ht | confirms ts b as _ hp ha _ _ ht
      | measures ts b as r _ hp ha _ _ _ _ ht =>
    subst ht
    refine ⟨hp, .byte b, ha, ?_⟩
    rintro _ ⟨⟩
    exact ⟨rfl, rfl⟩
  case txAccepted ts b as _ _ _ _ ht =>
    subst ht
    exact absurd (by simp) htaken
  all_goals exact absurd (by subst t; rfl) htaken

/-! ## A reply byte that is not the tenth -/

theorem readByte_storeReplyByte_same {s : State} (hn : s.rxcnt < Const.replyLen) (b : Byte) :
    readByte .rx s.rxcnt (storeReplyByte b s) = .ok b :=
  readByte_ok.mpr ⟨hn, lookup_write_same s.rx s.rxcnt b⟩

theorem readByte_storeReplyByte_other {s : State} {j : Nat} (hj : j ≠ s.rxcnt) (b : Byte) :
    readByte .rx j (storeReplyByte b s) = readByte .rx j s := by
  simp [readByte, State.buffer, lookup_write_other s.rx b hj]

/-- R148, R120: the transport's turn with a byte that does not fill the reply. -/
theorem step_rxByte {s : State} {ts : List Turn} {b : Byte} {as : List RxAnswer} (hp : s.phase = .rx)
    (hn : s.rxcnt + 1 < Const.replyLen) (hs : s.env.schedule = .transport :: ts) (ha : s.env.rxAns = .byte b :: as) :
    step s = .next (storeReplyByte b (takeRxAnswer as (takeTurn s))) := by
  have hroom : s.rxcnt < Const.replyLen := Nat.lt_of_succ_lt hn
  simp [step, fetch, hs, transportTurn, hp, rxTurn, ha, capture, hroom, hn.ne]

/-- Settles O33: the step is the store of one byte. -/
theorem replyByteStored : Obligations.ReplyByteStored := by
  intro s ts b as hp hn hs ha
  refine ⟨_, step_rxByte hp (Nat.succ_lt_succ hn) hs ha, ?_, fun j hj => ?_, rfl, ?_⟩
  · exact readByte_storeReplyByte_same (s := takeRxAnswer as (takeTurn s)) (Nat.lt_succ_of_lt hn) b
  · exact (readByte_storeReplyByte_other (s := takeRxAnswer as (takeTurn s)) hj b).trans (readByte_congr rfl)
  · simp [storeReplyByte, takeRxAnswer, takeTurn, hs]

/-! ## A write without an answer -/

/-- R84: every request code but 0b11 selects a command. -/
theorem decodeRequest_command {w : ReqWord} (hw : w.reqOp ≠ 0b11) :
    ∃ i, decodeRequest w = .ok i ∧ acceptingPhase i ≠ .rx := by
  have hcode : w.reqOp = 0b00 ∨ w.reqOp = 0b01 ∨ w.reqOp = 0b10 := by bv_omega
  obtain h | h | h := hcode
  · exact ⟨.setReportMode, by simp [decodeRequest, h], by simp [acceptingPhase]⟩
  · exact ⟨.setWorkPeriod w.reqArg, by simp [decodeRequest, h], by simp [acceptingPhase]⟩
  · exact ⟨.query, by simp [decodeRequest, h], by simp [acceptingPhase]⟩

/-- R143, R145: in a busy phase every command is held. -/
theorem exec_command_of_busy {i : Instr} {s : State} (hi : acceptingPhase i ≠ .rx) (hb : s.phase.busy = true) :
    exec i s = .next s := by
  have hp : s.phase = .tx ∨ s.phase = .rx := by
    cases hq : s.phase <;> simp [hq, Phase.busy] at hb ⊢
  cases i with
  | setReportMode => obtain hp | hp := hp <;> simp [exec, execSetReportMode, hp]
  | setWorkPeriod m => obtain hp | hp := hp <;> simp [exec, execSetWorkPeriod, hp]
  | query => obtain hp | hp := hp <;> simp [exec, execQuery, hp]
  | replyConfirm r | replyMeasurement r => exact absurd rfl hi

theorem takeTurn_of_no_turn {s : State} (hs : s.env.schedule = []) : takeTurn s = s := by
  rw [takeTurn, hs, List.tail_nil, ← hs]

/-- R208: phase `TX` with a byte on offer, no answer to its `TxSend`, and a host that offers requests of the three
operations, if any, with only the host and the transport acting. -/
structure State.WriteUnanswered (s : State) : Prop where
  phase : s.phase = .tx
  txAns : s.env.txAns = []
  offered : ∃ b, readByte .tx s.txidx s = .ok b
  turns : ∀ turn ∈ s.env.schedule, turn = .host ∨ turn = .transport
  requests : ∀ w ∈ s.env.host, w.reqOp ≠ 0b11

/-- R145: the offered request, if there is one, is held. -/
theorem State.WriteUnanswered.step_host {s : State} {ts : List Turn} (h : s.WriteUnanswered)
    (hs : s.env.schedule = .host :: ts) : step s = .next (takeTurn s) := by
  simp only [step, fetch, hs, hostTurn, takeTurn_env_host]
  cases hh : s.env.host with
  | nil => rfl
  | cons w more =>
    obtain ⟨i, hw, hi⟩ := decodeRequest_command (h.requests w (by simp [hh]))
    simp only [judge, hw]
    exact exec_command_of_busy hi (by simp [h.phase, Phase.busy])

/-- R208, R62: the transport has no answer to give. -/
theorem State.WriteUnanswered.step_transport {s : State} {ts : List Turn} (h : s.WriteUnanswered)
    (hs : s.env.schedule = .transport :: ts) : step s = .next (takeTurn s) := by
  obtain ⟨b, hb⟩ := h.offered
  have hb' : readByte .tx s.txidx (takeTurn s) = .ok b := (readByte_congr rfl).trans hb
  simp [step, fetch, hs, transportTurn, h.phase, txTurn, hb', h.txAns]

/-- R208, R145: one step of such a state drops its turn, if there is one, and changes nothing else. -/
theorem State.WriteUnanswered.step_eq {s : State} (h : s.WriteUnanswered) : step s = .next (takeTurn s) := by
  cases hs : s.env.schedule with
  | nil => simp [step, fetch, hs, takeTurn_of_no_turn hs]
  | cons turn ts =>
    obtain rfl | rfl := h.turns turn (by simp [hs])
    · exact h.step_host hs
    · exact h.step_transport hs

theorem State.WriteUnanswered.after_takeTurn {s : State} (h : s.WriteUnanswered) : (takeTurn s).WriteUnanswered :=
  { phase := h.phase
    txAns := h.txAns
    offered := h.offered
    turns := fun turn ht => h.turns turn (List.mem_of_mem_tail ht)
    requests := h.requests }

theorem State.WriteUnanswered.run_eq {s : State} (h : s.WriteUnanswered) (k : Nat) :
    run k s = .next (s.withSchedule (s.env.schedule.drop k)) := by
  induction k generalizing s with
  | zero => rfl
  | succ k ih =>
    simp only [run, h.step_eq, ih h.after_takeTurn]
    simp [State.withSchedule, takeTurn, List.drop_tail]

/-- Settles O50: a state whose write is not answered stays one under every step. -/
theorem unansweredWriteBlocks : Obligations.UnansweredWriteBlocks :=
  fun _ k b hp ha hb hturns hreqs => State.WriteUnanswered.run_eq ⟨hp, ha, ⟨b, hb⟩, hturns, hreqs⟩ k

end Sys2Proof.Machine
end

section
/-! PROOFS. The decoder and the encoder: what a row of the table admits (R89), when a command frame and a reply decode
(R83, R87), and that the frames that decode are exactly the encodings of the well-formed instructions (R86). -/

namespace Sys2Proof.Machine

/-! ## The rows of the table -/

/-- R71, R89: the frame of SET_WORK_PERIOD with the two bytes its row's mask clears as arguments. -/
def workPeriodBytes (m ck : Byte) : List Byte :=
  [0xAA, 0xB4, 0x08, 0x01, m, 0, 0, 0, 0, 0, 0, 0, 0, 0, 0, 0xFF, 0xFF, ck, 0xAB]

theorem encode_setWorkPeriod (m : Byte) : encode (.setWorkPeriod m) = workPeriodBytes m (0x07 + m) := rfl

/-- R110: the checksum of such a frame, whatever its byte 17 is. -/
theorem ckTx_workPeriodBytes (m ck : Byte) : ckTx (workPeriodBytes m ck) = 0x07 + m := by
  have hsum : 0x08 + (0x01 + (m + 0xFE)) = 0x07 + m := by bv_omega
  simpa [ckTx, slice, workPeriodBytes, Const.ckFirst, Const.ckTxLast] using hsum

/-- R89: a mask byte that clears nothing. -/
theorem and_FF (b : Byte) : b &&& 255#8 = b := BitVec.and_allOnes

/-- R89: a mask that clears nothing asks for the pattern itself. -/
theorem zipWith_and_replicate_FF (F : List Byte) : List.zipWith (· &&& ·) F (List.replicate F.length 0xFF) = F := by
  induction F with
  | nil => rfl
  | cons b F ih => simpa [List.replicate_succ, and_FF] using ih

/-- R89: a row whose mask clears nothing admits its pattern alone. -/
theorem admits_of_full_mask {row : Row} (hm : row.mask = List.replicate row.pattern.length 0xFF) (F : List Byte) :
    row.admits F = true ↔ F = row.pattern := by
  simp only [Row.admits, hm, Bool.and_eq_true, decide_eq_true_eq]
  constructor
  · rintro ⟨hlen, hmatch⟩
    rw [← hmatch, ← hlen, zipWith_and_replicate_FF]
  · rintro rfl
    exact ⟨rfl, zipWith_and_replicate_FF row.pattern⟩

theorem rowSetReportMode_admits_iff (F : List Byte) : rowSetReportMode.admits F = true ↔ F = encode .setReportMode :=
  admits_of_full_mask rfl F

theorem rowQuery_admits_iff (F : List Byte) : rowQuery.admits F = true ↔ F = encode .query := admits_of_full_mask rfl F

/-- R89: the row of SET_WORK_PERIOD leaves byte 4 and byte 17 open. -/
theorem rowSetWorkPeriod_admits_iff (F : List Byte) :
    rowSetWorkPeriod.admits F = true ↔ ∃ m ck, F = workPeriodBytes m ck := by
  constructor
  · intro h
    simp only [Row.admits, Bool.and_eq_true, decide_eq_true_eq] at h
    obtain ⟨hlen, hmatch⟩ := h
    match F, hlen with
    | [b0, b1, b2, b3, b4, b5, b6, b7, b8, b9, b10, b11, b12, b13, b14, b15, b16, b17, b18], _ =>
      refine ⟨b4, b17, ?_⟩
      simpa [rowSetWorkPeriod, and_FF, workPeriodBytes] using hmatch
  · rintro ⟨m, ck, rfl⟩
    simp [Row.admits, rowSetWorkPeriod, workPeriodBytes]

/-! ## Recognising a command frame (R87) -/

theorem rowCommand_setReportMode_iff (F : List Byte) :
    rowCommand F = some .setReportMode ↔ rowSetReportMode.admits F = true := by
  unfold rowCommand
  split_ifs <;> simp_all

/-- No frame is of two rows, since their opcodes differ (R90). -/
theorem rowCommand_query_iff (F : List Byte) : rowCommand F = some .query ↔ rowQuery.admits F = true := by
  have hopen : rowSetReportMode.admits F = true → rowQuery.admits F = false := by
    rw [rowSetReportMode_admits_iff]
    rintro rfl
    decide
  unfold rowCommand
  split_ifs <;> simp_all

theorem rowCommand_setWorkPeriod_iff (F : List Byte) (m : Byte) :
    rowCommand F = some (.setWorkPeriod m) ↔ rowSetWorkPeriod.admits F = true ∧ F.getD 4 0 = m := by
  have hopen : rowSetReportMode.admits F = true → rowSetWorkPeriod.admits F = false := by
    rw [rowSetReportMode_admits_iff]
    rintro rfl
    decide
  have hquery : rowQuery.admits F = true → rowSetWorkPeriod.admits F = false := by
    rw [rowQuery_admits_iff]
    rintro rfl
    decide
  unfold rowCommand
  split_ifs <;> simp_all

/-- No command row gives a reply. -/
theorem acceptingPhase_of_rowCommand {F : List Byte} {i : Instr} (h : rowCommand F = some i) :
    acceptingPhase i ≠ .rx := by
  unfold rowCommand at h
  split_ifs at h <;> cases h <;> simp [acceptingPhase]

/-- R87: what is asked of a frame of a known row: a legal operand and the checksum. -/
theorem decodeCommand_ok_iff_of_rowCommand {F : List Byte} {i : Instr} (hlen : F.length = Const.cmdLen)
    (hrow : rowCommand F = some i) (j : Instr) :
    decodeCommand F = .ok j ↔ i.wf = true ∧ F.getD 17 0 = ckTx F ∧ i = j := by
  simp only [decodeCommand, hlen, ne_eq, not_true_eq_false, if_false, hrow]
  by_cases hck : F.getD 17 0 = ckTx F
  all_goals
    simp only [hck, if_true, if_false]
    cases i with
    | setReportMode | query | replyConfirm r | replyMeasurement r => simp [Instr.wf]
    | setWorkPeriod m => cases hm : legalPeriod m <;> simp [Instr.wf, hm]

/-- R87: a frame decodes to the command of its row when that is well formed and the checksum holds. -/
theorem decodeCommand_ok_iff (F : List Byte) (i : Instr) : decodeCommand F = .ok i ↔
    F.length = Const.cmdLen ∧ rowCommand F = some i ∧ i.wf = true ∧ F.getD 17 0 = ckTx F := by
  by_cases hlen : F.length = Const.cmdLen
  · cases hrow : rowCommand F with
    | none => simp [decodeCommand, hlen, hrow]
    | some j =>
      rw [decodeCommand_ok_iff_of_rowCommand hlen hrow]
      constructor
      · rintro ⟨hwf, hck, rfl⟩
        exact ⟨hlen, rfl, hwf, hck⟩
      · rintro ⟨-, ⟨⟩, hwf, hck⟩
        exact ⟨hwf, hck, rfl⟩
  · simp [decodeCommand, hlen]

/-- R87, R90: the command frames are the encodings of the well-formed commands. -/
theorem decodeCommand_ok_iff_encode (F : List Byte) (i : Instr) : decodeCommand F = .ok i ↔
    acceptingPhase i ≠ .rx ∧ i.wf = true ∧ F = encode i := by
  rw [decodeCommand_ok_iff]
  constructor
  · rintro ⟨-, hrow, hwf, hck⟩
    have hi := acceptingPhase_of_rowCommand hrow
    refine ⟨hi, hwf, ?_⟩
    cases i with
    | setReportMode => rwa [rowCommand_setReportMode_iff, rowSetReportMode_admits_iff] at hrow
    | query => rwa [rowCommand_query_iff, rowQuery_admits_iff] at hrow
    | setWorkPeriod m =>
      rw [rowCommand_setWorkPeriod_iff, rowSetWorkPeriod_admits_iff] at hrow
      obtain ⟨⟨m', ck, rfl⟩, rfl⟩ := hrow
      have hck : ck = 0x07 + m' := hck.trans (ckTx_workPeriodBytes m' ck)
      rw [hck]
      rfl
    | replyConfirm r | replyMeasurement r => exact absurd rfl hi
  · rintro ⟨hi, hwf, rfl⟩
    cases i with
    | setReportMode | query => exact ⟨rfl, by decide, hwf, by decide⟩
    | setWorkPeriod m =>
      have hrow : rowSetWorkPeriod.admits (encode (.setWorkPeriod m)) = true :=
        (rowSetWorkPeriod_admits_iff _).mpr ⟨m, _, encode_setWorkPeriod m⟩
      have hck : 0x07 + m = ckTx (encode (.setWorkPeriod m)) := (ckTx_workPeriodBytes m (0x07 + m)).symm
      exact ⟨rfl, (rowCommand_setWorkPeriod_iff _ m).mpr ⟨hrow, rfl⟩, hwf, hck⟩
    | replyConfirm r | replyMeasurement r => exact absurd rfl hi

/-! ## Any frame (R86) -/

/-- R89: exactly the ten-byte sequences are replies. -/
theorem decodeReply_ok_iff (op : Op) (R : List Byte) (i : Instr) :
    decodeReply op R = .ok i ↔ ∃ r : ReplyFrame, R = r.toBytes ∧ i = replyInstr op r := by
  constructor
  · intro h
    unfold decodeReply at h
    split at h
    · cases h
      exact ⟨_, rfl, rfl⟩
    · cases h
  · rintro ⟨r, rfl, rfl⟩
    rfl

theorem encode_replyInstr (op : Op) (r : ReplyFrame) : encode (replyInstr op r) = r.toBytes := by cases op <;> rfl

theorem wf_replyInstr (op : Op) (r : ReplyFrame) : (replyInstr op r).wf = true := by cases op <;> rfl

/-- R83: the bytes of a reply decode to the instruction of the operation that reads them. -/
theorem decode_toBytes (op : Op) (r : ReplyFrame) : decode op r.toBytes = .ok (replyInstr op r) := rfl

/-- R86, R83: what decodes under an operation: the encodings of the well-formed instructions it can read, every command
and the replies of its kind. -/
theorem decode_ok_iff (op : Op) (F : List Byte) (i : Instr) : decode op F = .ok i ↔
    (acceptingPhase i ≠ .rx ∨ ∃ r, i = replyInstr op r) ∧ i.wf = true ∧ F = encode i := by
  unfold decode
  split_ifs with hlen
  · rw [decodeCommand_ok_iff_encode]
    refine and_congr_left fun ⟨_, hF⟩ => (or_iff_left ?_).symm
    rintro ⟨r, rfl⟩
    rw [hF, encode_replyInstr] at hlen
    cases hlen
  · rw [decodeReply_ok_iff]
    constructor
    · rintro ⟨r, rfl, rfl⟩
      exact ⟨.inr ⟨r, rfl⟩, wf_replyInstr op r, (encode_replyInstr op r).symm⟩
    · rintro ⟨hi | ⟨r, rfl⟩, _, rfl⟩
      · exact absurd (length_encode_command hi) hlen
      · exact ⟨r, encode_replyInstr op r, rfl⟩

/-! ## The statements -/

/-- Settles O1: a command is read under every operation, a reply under those of its kind. -/
theorem decodeInvertsEncode : Obligations.DecodeInvertsEncode := by
  intro i op hwf hconfirm hmeasurement
  refine (decode_ok_iff op (encode i) i).mpr ⟨?_, hwf, rfl⟩
  cases i with
  | setReportMode | query | setWorkPeriod m => exact .inl (by simp [acceptingPhase])
  | replyConfirm r =>
    refine .inr ⟨r, ?_⟩
    cases op with
    | query => exact absurd rfl (hconfirm r rfl)
    | reportMode | workPeriod => rfl
  | replyMeasurement r => exact .inr ⟨r, by rw [hmeasurement r rfl]; rfl⟩

/-- Settles O2: one direction of `decode_ok_iff`. -/
theorem encodeInvertsDecode : Obligations.EncodeInvertsDecode := by
  intro op F i h
  obtain ⟨-, hwf, hF⟩ := (decode_ok_iff op F i).mp h
  exact ⟨hwf, hF.symm⟩

/-- Settles O3: the recogniser is the row, the range of the operand and the checksum, command by command. -/
theorem commandFrameRecognised : Obligations.CommandFrameRecognised := by
  intro F (hlen : F.length = Const.cmdLen)
  have hck : ckTx F = sum8 (slice F 2 16) := rfl
  refine ⟨?_, ?_, fun m => ?_, fun r => ⟨?_, ?_⟩⟩
  · simp [decodeCommand_ok_iff, hlen, rowCommand_setReportMode_iff, hck, Instr.wf]
  · simp [decodeCommand_ok_iff, hlen, rowCommand_query_iff, hck, Instr.wf]
  · rw [decodeCommand_ok_iff, rowCommand_setWorkPeriod_iff, Instr.wf, legalPeriod_iff, hck]
    tauto
  · simp [decodeCommand_ok_iff_encode, acceptingPhase]
  · simp [decodeCommand_ok_iff_encode, acceptingPhase]

/-- Settles O4: in the three encodings. -/
theorem opcodeByteTellsCommand : Obligations.OpcodeByteTellsCommand := by
  intro F i h
  obtain ⟨hi, -, rfl⟩ := (decodeCommand_ok_iff_encode F i).mp h
  cases i with
  | setReportMode | query | setWorkPeriod m => simp [encode]
  | replyConfirm r | replyMeasurement r => exact absurd rfl hi

/-- Settles O5: seven closed computations of the decoder. -/
theorem writtenWordsDecode : Obligations.WrittenWordsDecode :=
  ⟨by decide, by decide, by decide, by decide, by decide, rfl, rfl⟩

/-- Settles O9, one frame at a time. -/
theorem builderAgreesWithEncoder : Obligations.BuilderAgreesWithEncoder :=
  ⟨frameReportMode_eq_encode, frameQuery_eq_encode, frameWorkPeriod_eq_encode⟩

end Sys2Proof.Machine
end

section
/-! PROOFS. A step and its instruction: the host's turn runs the offered request, the transport's turn with the tenth byte
runs the reply, a placed word is run next (R84, R120, R140); and what a measurement depends on (R81, R125). -/

namespace Sys2Proof.Machine

/-- R140, R84: the host's turn with a request that selects an instruction. -/
theorem step_request {s : State} {ts : List Turn} {w : ReqWord} {more : List ReqWord} {i : Instr}
    (hs : s.env.schedule = .host :: ts) (hh : s.env.host = w :: more) (hw : decodeRequest w = .ok i) :
    step s = exec i (takeTurn s) := by
  simp [step, fetch, hs, hostTurn, hh, judge, hw]

/-- R120: nine bytes of a reply received, and its tenth stored, are the reply. -/
theorem readReply_storeReplyByte {s : State} {r : ReplyFrame} (hn : s.rxcnt = 9)
    (hr : ∀ j, j < 9 → s.rx.lookup j = r.toBytes[j]?) : readReply (storeReplyByte r.tail s) = .ok r := by
  refine readReply_of fun j hj => ?_
  rw [storeReplyByte_rx, hn]
  by_cases hlast : j = 9
  · rw [hlast, lookup_write_same]
    rfl
  · rw [lookup_write_other s.rx r.tail hlast]
    exact hr j (by omega)

/-- R120, R124: the transport's turn with the tenth byte of a reply. -/
theorem step_lastReplyByte {s : State} {ts : List Turn} {as : List RxAnswer} {r : ReplyFrame} (hp : s.phase = .rx)
    (hn : s.rxcnt = 9) (hs : s.env.schedule = .transport :: ts) (ha : s.env.rxAns = .byte r.tail :: as)
    (hr : ∀ j, j < 9 → s.rx.lookup j = r.toBytes[j]?) :
    step s = exec (replyInstr s.op r) (storeReplyByte r.tail (takeRxAnswer as (takeTurn s))) := by
  have hread : readReply (storeReplyByte r.tail (takeRxAnswer as (takeTurn s))) = .ok r :=
    readReply_storeReplyByte (s := takeRxAnswer as (takeTurn s)) hn hr
  simp [step, fetch, hs, transportTurn, hp, rxTurn, ha, capture, hn, Const.replyLen, fetchReply, hread]

/-! ## Placing an instruction (log entry 9) -/

/-- What placing an instruction and the turn that follows leave as it was: the response, the command buffer, the rest of
the schedule and the bytes sent. -/
def SameBesidesPlacing (s t : State) : Prop :=
  t.rsp = s.rsp ∧ t.tx = s.tx ∧ t.env.schedule = s.env.schedule ∧ t.env.sent = s.env.sent

theorem step_placeReply (op : Op) (r : ReplyFrame) (s : State) :
    ∃ t, step (placeReply op r s) = exec (replyInstr op r) t ∧ SameBesidesPlacing s t := by
  have hnine : ∀ j, j < 9 → (placeReply op r s).rx.lookup j = r.toBytes[j]? := by
    intro j hj
    simp [placeReply, lookup_ofBytes, hj]
  exact ⟨_, step_lastReplyByte rfl rfl rfl rfl hnine, rfl, rfl, rfl, rfl⟩

theorem step_placeInstr (i : Instr) (s : State) :
    ∃ t, step (placeInstr i s) = exec i t ∧ SameBesidesPlacing s t := by
  cases i with
  | setReportMode | query | setWorkPeriod m => exact ⟨_, step_request rfl rfl rfl, rfl, rfl, rfl, rfl⟩
  | replyConfirm r => exact step_placeReply .reportMode r s
  | replyMeasurement r => exact step_placeReply .query r s

/-! ## The statements about a step -/

/-- Settles O16: the turn taken is the state with its schedule's tail. -/
theorem stepRunsTheRequest : Obligations.StepRunsTheRequest := by
  intro s ts w more i hs hh hw
  rw [step_request hs hh hw, takeTurn_eq_withSchedule, hs, List.tail_cons]

/-- Settles O17: the ten bytes decode to the reply under `op`, which is what the step runs. -/
theorem stepRunsTheReply : Obligations.StepRunsTheReply := by
  intro s ts as r i hp hn hs ha hbytes hdec
  obtain rfl : replyInstr s.op r = i := Except.ok.inj ((decode_toBytes s.op r).symm.trans hdec)
  have hr : ∀ j, j < 9 → s.rx.lookup j = r.toBytes[j]? := by
    intro j hj
    obtain ⟨-, hlook⟩ := readByte_ok.mp (hbytes j hj)
    have hlen : j < r.toBytes.length := Nat.lt_of_lt_of_le hj (by simp [ReplyFrame.toBytes])
    simpa [State.buffer, List.getD_eq_getElem?_getD, hlen] using hlook
  rw [step_lastReplyByte hp hn hs ha hr]
  simp [storeReplyByte, takeRxAnswer, takeTurn, hs, hn]

/-- Settles O18: a word that decodes is placed as its instruction. -/
theorem placedWordRuns : Obligations.PlacedWordRuns := by
  intro s nbits w i hw
  have hplace : s.withFetchWord nbits w = placeInstr i s := by simp [State.withFetchWord, placeWord, hw]
  rw [hplace]
  exact step_placeInstr i s

/-! ## What a measurement depends on -/

/-- R128: a valid reply read as a measurement, whatever the state. -/
theorem exec_replyMeasurement_of_valid {r : ReplyFrame} (hv : r.valid = true) (s : State) :
    exec (.replyMeasurement r) s = .next (respondMeasurement (pm25Of r) (pm10Of r) s) := by
  simpa [replyInstr, hv] using exec_replyInstr .query r s

/-- Settles O15: the response is the same function of the two raw values, and these of bytes 2 to 5. -/
theorem measurementDependsOnBytes2To5 : Obligations.MeasurementDependsOnBytes2To5 := by
  intro s s' r r' hv hv' h2 h3 h4 h5
  have hpm25 : pm25Of r' = pm25Of r := by simp [pm25Of, h2, h3]
  have hpm10 : pm10Of r' = pm10Of r := by simp [pm10Of, h4, h5]
  refine ⟨_, _, exec_replyMeasurement_of_valid hv s, exec_replyMeasurement_of_valid hv' s', ?_⟩
  rw [hpm25, hpm10]
  exact ⟨rfl, rfl, rfl, rfl, rfl⟩

end Sys2Proof.Machine
end

section
/-! PROOFS. The command builder: the checksum depends on neither the order nor the width of the additions (R101), what
BUILD_FRAME makes of every body (R102, R103, R109, R110), and the accepting step of a command that starts, which writes
its frame (R104, R141, R144, R151). -/

namespace Sys2Proof.Machine

/-! ## The checksum as an accumulation (R101) -/

theorem sum8_perm {S T : List Byte} (h : S.Perm T) : sum8 S = sum8 T := by
  rw [sum8, sum8, (h.map BitVec.toNat).sum_eq]

theorem toNat_sum8 (S : List Byte) : (sum8 S).toNat = (S.map BitVec.toNat).sum % 256 := by simp [sum8]

/-- R101: the checksum added up byte by byte in an eight-bit accumulator. -/
theorem foldl_add_eq_sum8 (S : List Byte) (a : Byte) : S.foldl (· + ·) a = a + sum8 S := by
  induction S generalizing a with
  | nil => simp
  | cons b S ih => simp [ih, BitVec.add_assoc]

/-- R101: an accumulator of at least eight bits holds the checksum in its low eight. -/
theorem setWidth_foldl_add {w : Nat} (hw : 8 ≤ w) (S : List Byte) :
    ((S.foldl (fun acc b => acc + b.setWidth w) (0 : BitVec w)).setWidth 8 : Byte) = sum8 S := by
  have hadd (acc : BitVec w) (b : Byte) : acc.setWidth 8 + b = (acc + b.setWidth w).setWidth 8 := by
    simp [BitVec.setWidth_add _ _ hw, BitVec.setWidth_setWidth_of_le _ hw]
  rw [← List.foldl_hom (BitVec.setWidth 8) (g₂ := (· + ·)) hadd, foldl_add_eq_sum8]
  simp

/-- R101: reducing at every addition gives the checksum too. -/
theorem foldl_add_mod_eq_sum8 (S : List Byte) :
    S.foldl (fun acc b => (acc + b.toNat) % 256) 0 = (sum8 S).toNat := by
  have hadd (acc b : Byte) : (acc.toNat + b.toNat) % 256 = (acc + b).toNat := (BitVec.toNat_add acc b).symm
  calc
    S.foldl (fun acc b => (acc + b.toNat) % 256) 0 = (S.foldl (· + ·) 0 : Byte).toNat :=
      List.foldl_hom BitVec.toNat (init := (0 : Byte)) hadd
    _ = (sum8 S).toNat := by simp [foldl_add_eq_sum8]

/-- Settles O10: each accumulation gives the checksum of the permuted bytes. -/
theorem accumulatorWidthAndOrderDoNotMatter : Obligations.AccumulatorWidthAndOrderDoNotMatter := by
  intro S T w hperm hw
  refine ⟨?_, toNat_sum8 S, ?_, ?_⟩
  · rw [setWidth_foldl_add hw, sum8_perm hperm]
  · rw [toNat_sum8]
    exact (Nat.and_two_pow_sub_one_eq_mod _ 8).symm
  · rw [foldl_add_mod_eq_sum8, sum8_perm hperm]

/-! ## The layout of a built frame (R103) -/

/-- R8: the bytes `S` after a two-byte header, at indices 2 to `S.length + 1` whatever follows. -/
theorem slice_after_header (a b : Byte) (S rest : List Byte) :
    slice (a :: b :: (S ++ rest)) 2 (S.length + 1) = S := by
  simp [slice]

/-- R103: the bytes the command checksum covers: the body and the ID bytes. -/
def checkedBytes (B : List Byte) : List Byte := B ++ [0xFF, 0xFF]

theorem build_header (B : List Byte) : (build B)[0]? = some 0xAA ∧ (build B)[1]? = some 0xB4 := ⟨rfl, rfl⟩

section
variable {B : List Byte} (hB : B.length = 13)
include hB

theorem slice_checkedBytes (rest : List Byte) :
    slice (0xAA :: 0xB4 :: (checkedBytes B ++ rest)) 2 16 = checkedBytes B := by
  have hlen : (checkedBytes B).length = 15 := by simp [checkedBytes, hB]
  have h := slice_after_header 0xAA 0xB4 (checkedBytes B) rest
  rwa [hlen] at h

/-- R103: the header, the checked bytes, their checksum, the tail. -/
theorem build_eq : build B = 0xAA :: 0xB4 :: (checkedBytes B ++ [sum8 (checkedBytes B), 0xAB]) := by
  have hck : ckTx (0xAA :: 0xB4 :: checkedBytes B) = sum8 (checkedBytes B) := by
    have h := slice_checkedBytes hB []
    rw [List.append_nil] at h
    exact congrArg sum8 h
  rw [← hck]
  simp [build, checkedBytes, Const.head, Const.cmdId, Const.id1, Const.id2, Const.tail]

theorem length_build : (build B).length = 19 := by simp [build_eq hB, checkedBytes, hB]

theorem slice_build : slice (build B) 2 16 = checkedBytes B := by rw [build_eq hB, slice_checkedBytes hB]

theorem slice_build_body : slice (build B) 2 14 = B := by
  have h := slice_after_header 0xAA 0xB4 B ([0xFF, 0xFF] ++ [sum8 (checkedBytes B), 0xAB])
  rwa [hB, ← List.append_assoc, ← checkedBytes, ← build_eq hB] at h

theorem ckTx_build : ckTx (build B) = sum8 (checkedBytes B) := congrArg sum8 (slice_build hB)

theorem build_body {j : Nat} (hj : j < 13) : (build B)[2 + j]? = B[j]? := by
  have hin : j < B.length := by omega
  rw [build_eq hB, Nat.add_comm 2 j]
  simp [checkedBytes, List.getElem?_append_left hin]

/-- R103: the bytes after the body: the ID bytes, the checksum and the tail. -/
theorem build_trailer (j : Nat) : (build B)[15 + j]? = [0xFF, 0xFF, sum8 (checkedBytes B), 0xAB][j]? := by
  have hidx : 15 + j = B.length + j + 2 := by omega
  rw [build_eq hB, hidx]
  simp [checkedBytes, List.getElem?_append_right]

end

/-- Settles O6: the layout, part by part; the rule's example is the frame of QUERY. -/
theorem builderLaysOutEveryBody : Obligations.BuilderLaysOutEveryBody := by
  refine ⟨fun B hB => ?_, frameQuery_eq_encode⟩
  obtain ⟨hhead, hid⟩ := build_header B
  exact ⟨length_build hB, hhead, hid, fun j hj => build_body hB hj, build_trailer hB 0, build_trailer hB 1,
    build_trailer hB 2, slice_build hB, build_trailer hB 3⟩

/-- Settles O11: the checked bytes are the body and the ID bytes, whose sum is 0xFE. -/
theorem idBytesAddFE : Obligations.IdBytesAddFE := by
  intro B hB
  rw [ckTx_build hB, slice_build_body hB, checkedBytes, sum8_append]
  rfl

/-! ## The three frames (R109, R110) -/

/-- Settles O7: each frame is built from a body of 13 bytes that begins with an opcode. -/
theorem builtFramesMeetTheInvariant : Obligations.BuiltFramesMeetTheInvariant := by
  intro F hF
  obtain ⟨B, hB, rfl, hop⟩ : ∃ B : List Byte, B.length = 13 ∧ F = build B ∧
      (B[0]? = some 0x02 ∨ B[0]? = some 0x04 ∨ B[0]? = some 0x08) := by
    obtain rfl | rfl | ⟨m, -, rfl⟩ := hF
    · exact ⟨bodyReportMode, rfl, rfl, .inl rfl⟩
    · exact ⟨bodyQuery, rfl, rfl, .inr (.inl rfl)⟩
    · exact ⟨bodyWorkPeriod m, rfl, rfl, .inr (.inr rfl)⟩
  obtain ⟨hhead, hid⟩ := build_header B
  rw [← build_body hB (by decide : 0 < 13)] at hop
  rw [slice_build hB]
  exact ⟨length_build hB, hhead, hid, hop, build_trailer hB 0, build_trailer hB 1, build_trailer hB 2,
    build_trailer hB 3⟩

theorem ckTx_frameWorkPeriod (m : Byte) : ckTx (frameWorkPeriod m) = 0x07 + m := by
  rw [frameWorkPeriod_eq_encode, encode_setWorkPeriod, ckTx_workPeriodBytes]

/-- Settles O8: the checksum is `0x07 + m` in eight bits; the rest is arithmetic modulo 256. -/
theorem workPeriodChecksumClosedForm : Obligations.WorkPeriodChecksumClosedForm := by
  intro m
  have hck : (ckTx (frameWorkPeriod m)).toNat = (0x07 + m.toNat) % 256 := by
    rw [ckTx_frameWorkPeriod, BitVec.toNat_add]
    rfl
  have hbyte : (frameWorkPeriod m)[17]? = some (ckTx (frameWorkPeriod m)) := by
    have hB : (bodyWorkPeriod m).length = 13 := rfl
    rw [frameWorkPeriod, ckTx_build hB]
    exact build_trailer hB 2
  refine ⟨by omega, by omega, hck, hbyte, fun hm => ?_⟩
  omega

/-! ## The accepting step of a command that starts (R104) -/

/-- R141, R144, R151: the request of a command that starts is accepted; OPEN alone sets `init` and takes an open
outcome. -/
def acceptStarting (i : Instr) (s : State) : State :=
  match i with
  | .setReportMode => beginConstruction s.env.openAns.tail s
  | i => beginOrdinary i.op s

/-- R104, R141, R144, R151: a command that starts is accepted and its frame written whole into `TX`. -/
theorem exec_of_starts {i : Instr} {s : State} (hs : starts i s) :
    exec i s = .next (startFrame (encode i) (acceptStarting i s)) := by
  cases i with
  | setReportMode =>
    obtain ⟨hp, ha⟩ := hs
    obtain ⟨rest, ha⟩ := List.head?_eq_some_iff.mp ha
    simp [exec, execSetReportMode, hp, ha, frameReportMode_eq_encode, acceptStarting]
  | query =>
    have hp : s.phase = .ready := hs
    simp [exec, execQuery, hp, frameQuery_eq_encode, acceptStarting, Instr.op]
  | setWorkPeriod m =>
    obtain ⟨hp, hm⟩ := hs
    simp [exec, execSetWorkPeriod, hp, (legalPeriod_iff m).mpr hm, frameWorkPeriod_eq_encode, acceptStarting,
      Instr.op]
  | replyConfirm r | replyMeasurement r => exact hs.elim

/-- Settles O20: the start of OPEN, field by field. -/
theorem openStartsConstruction : Obligations.OpenStartsConstruction := by
  intro s rest hp ha
  have hs : starts .setReportMode s := ⟨hp, by rw [ha, List.head?_cons]⟩
  rw [exec_of_starts hs, acceptStarting, ha]
  rfl

/-- Settles O22: the start of SET_WORK_PERIOD, its checksum in the closed form. -/
theorem legalWorkPeriodStarts : Obligations.LegalWorkPeriodStarts := by
  intro s m hp hm
  have hs : starts (.setWorkPeriod m) s := ⟨hp, hm⟩
  have hck : BitVec.ofNat 8 (7 + m.toNat) = 0x07 + m := by simp [BitVec.ofNat_add]
  rw [exec_of_starts hs, hck]
  rfl

/-- Settles O24: the start of QUERY, field by field. -/
theorem queryStarts : Obligations.QueryStarts := by
  intro s hp
  have hs : starts .query s := hp
  rw [exec_of_starts hs]
  rfl

end Sys2Proof.Machine
end

section
/-! PROOFS. The reply parser: the verdict is a checksum of bytes 2 to 7 against byte 8 (R121 to R126), what executing a
reply leaves and what it writes (R127, R128, R130), and what the host makes of a measurement (R129, R153). -/

namespace Sys2Proof.Machine

/-! ## The verdict -/

theorem valid_iff (r : ReplyFrame) : r.valid = true ↔ sum8 r.payload = r.ck := by
  rw [ReplyFrame.valid, decide_eq_true_iff, ckRx_eq]

theorem valid_eq_false_iff (r : ReplyFrame) : r.valid = false ↔ sum8 r.payload ≠ r.ck := by
  rw [ReplyFrame.valid, decide_eq_false_iff_not, ckRx_eq]

/-- R123: one byte changed always changes the sum, for addition in eight bits can be cancelled. -/
theorem sum8_ne_of_one_byte_changed {S T : List Byte} {j : Nat} (hlen : S.length = T.length) (hj : S[j]? ≠ T[j]?)
    (hrest : ∀ n, n ≠ j → S[n]? = T[n]?) : sum8 S ≠ sum8 T := by
  induction S generalizing T j with
  | nil => simp [List.eq_nil_of_length_eq_zero hlen.symm] at hj
  | cons b S ih =>
    cases T with
    | nil => simp at hlen
    | cons c T =>
      cases j with
      | zero =>
        have hbc : b ≠ c := by simpa using hj
        have htail : S = T := List.ext_getElem? fun n => by simpa using hrest (n + 1) (Nat.succ_ne_zero n)
        simpa [htail] using hbc
      | succ j =>
        have hhead : b = c := by simpa using hrest 0 (Nat.succ_ne_zero j).symm
        have htail : sum8 S ≠ sum8 T :=
          ih (Nat.succ.inj hlen) (by simpa using hj) fun n hn => by simpa using hrest (n + 1) (by omega)
        simpa [hhead] using htail

/-! ## A reply executed -/

/-- R124, R127, R128: the three ways a reply ends its transaction. -/
theorem exec_replyInstr_next {op : Op} {r : ReplyFrame} {s t : State} (h : exec (replyInstr op r) s = .next t) :
    (r.valid = false ∧ t = raise .badChecksum s) ∨
    (r.valid = true ∧ op ≠ .query ∧ t = respondConfirm s) ∨
    (r.valid = true ∧ op = .query ∧ t = respondMeasurement (pm25Of r) (pm10Of r) s) := by
  rw [exec_replyInstr] at h
  injection h with h
  subst h
  cases r.valid with
  | false => exact .inl ⟨rfl, rfl⟩
  | true =>
    by_cases hop : op = .query
    · exact .inr (.inr ⟨rfl, hop, by simp [hop]⟩)
    · exact .inr (.inl ⟨rfl, hop, by simp [hop]⟩)

theorem readByte_of_same_buffers {s t : State} (htx : t.tx = s.tx) (hrx : t.rx = s.rx) (buf : Buffer) (j : Nat) :
    readByte buf j t = readByte buf j s :=
  readByte_congr <| match buf with
    | .tx => htx
    | .rx => hrx

/-- R130: the response `parse` gives, by the verdict and the operation. -/
theorem parse_eq (op : Op) (r : ReplyFrame) : (parse op r : Result) =
    if r.valid then (if op = .query then .measurement (pm25Of r) (pm10Of r) else .confirm)
    else .error .badChecksum := by
  cases hv : r.valid with
  | true =>
    have hsum : sum8 (slice r.toBytes 2 7) = r.ck := (valid_iff r).mp hv
    cases op <;> simp [parse, hsum, pm25Of, pm10Of]
  | false =>
    have hsum : sum8 (slice r.toBytes 2 7) ≠ r.ck := (valid_eq_false_iff r).mp hv
    simp [parse, hsum]

/-- R127: a valid reply read as a confirmation, whatever the state. -/
theorem exec_replyConfirm_of_valid {r : ReplyFrame} (hv : r.valid = true) (s : State) :
    exec (.replyConfirm r) s = .next (respondConfirm s) := by
  simpa [replyInstr, hv] using exec_replyInstr .reportMode r s

/-! ## A raw value -/

/-- R9, R53: the high byte stands above the low one. -/
theorem le16_eq_append (lo hi : Byte) : le16 lo hi = hi ++ lo := by
  rw [BitVec.append_def, BitVec.shiftLeftZeroExtend_eq, BitVec.setWidth'_eq, le16]

theorem toNat_le16 (lo hi : Byte) : (le16 lo hi).toNat = lo.toNat + 256 * hi.toNat := by
  rw [le16_eq_append, BitVec.toNat_append, ← Nat.shiftLeft_add_eq_or_of_lt lo.isLt, Nat.shiftLeft_eq]
  omega

/-! ## The Message of a measurement -/

/-- R153: from a measurement the host reads both raw values and forms their Message. -/
theorem formMessage_of_measurement {F : Type} (pmFloat : Rat → F) (epoch now : Int) {s : State}
    (hv : s.rsp.rspValid = true) (hpm : s.rsp.pmValid = true) (hst : s.rsp.status ≤ 4) :
    formMessage pmFloat epoch now s = .ok
      { pm25 := pmFloat (concentration s.rsp.pm25Raw)
        pm10 := pmFloat (concentration s.rsp.pm10Raw)
        timestamp := timestamp epoch now } := by
  have hpm25 : hostRead .pm25Raw s = .ok (.raw s.rsp.pm25Raw) := hostRead_of_meaning (fun _ => hst) ⟨hv, hpm⟩
  have hpm10 : hostRead .pm10Raw s = .ok (.raw s.rsp.pm10Raw) := hostRead_of_meaning (fun _ => hst) ⟨hv, hpm⟩
  simp only [formMessage, hpm25, hpm10]

/-! ## The statements -/

/-- Settles O12: the verdict compares the payload's sum with byte 8, and the status written is that verdict. -/
theorem verdictDependsOnBytes2To8 : Obligations.VerdictDependsOnBytes2To8 := by
  refine ⟨fun r h e t => rfl, fun r c hv hc => ?_, fun r q j hv hck _ hj hrest => ?_, ?_, fun op r s => ?_⟩
  · have hsum : sum8 r.payload = r.ck := (valid_iff r).mp hv
    exact (valid_eq_false_iff _).mpr fun h => hc (h.symm.trans hsum)
  · have hsum : sum8 r.payload = r.ck := (valid_iff r).mp hv
    rw [valid_eq_false_iff, hck, ← hsum]
    exact sum8_ne_of_one_byte_changed rfl hj hrest
  · exact ⟨⟨0, 0, 1, 0, 0, 0, 0, 0, 1, 0⟩, ⟨0, 0, 0, 0, 1, 0, 0, 0, 1, 0⟩, by decide⟩
  · refine ⟨_, exec_replyInstr op r s, ?_⟩
    cases r.valid with
    | false => simp [ErrInfo.code, statusBadChecksum]
    | true => by_cases hop : op = .query <;> simp [hop, statusOk]

/-- Settles O13: of the events of a step each one that writes `status` writes another code, and a reset clears
`rsp_valid`. -/
theorem emptyDataFrameNeverRaised : Obligations.EmptyDataFrameNeverRaised := by
  refine ⟨rfl, fun r => ⟨rfl, ?_⟩, fun s t hstep hst => ?_⟩
  · rw [validate_eq]
    cases r.valid <;> simp
  · cases step_event hstep
    case reset ts hs ht => exact .inr ⟨by simp [hs], by simp [ht, Rsp.reset]⟩
    case openFails | tooLong | txFails | rxFails | badChecksum =>
      subst t
      simp [ErrInfo.code, statusTransportError, statusTooLongWorkTime, statusBadChecksum] at hst
    case confirms | measures =>
      subst t
      simp [statusOk] at hst
    all_goals
      subst t
      exact .inl (by simpa [State.withSchedule] using hst)

/-- Settles O14: the verdict and the operation choose the response and the result alike. -/
theorem repliesAgreeWithParse : Obligations.RepliesAgreeWithParse := by
  intro op r s
  refine ⟨_, exec_replyInstr op r s, ?_⟩
  rw [parse_eq]
  cases r.valid with
  | false => rfl
  | true => by_cases hop : op = .query <;> simp only [hop, if_true, if_false] <;> rfl

/-- Settles O27: a reply whose payload sums to byte 8 is valid, and a valid confirmation answers `respondConfirm`. -/
theorem validReplyConfirms : Obligations.ValidReplyConfirms :=
  fun s r hsum => exec_replyConfirm_of_valid ((valid_iff r).mpr hsum) s

/-- Settles O28: the raw values are the payload's bytes, the high one first. -/
theorem validReplyDecodes : Obligations.ValidReplyDecodes := by
  intro s r hsum
  rw [exec_replyMeasurement_of_valid ((valid_iff r).mpr hsum), pm25Of, pm10Of, le16_eq_append, le16_eq_append]
  rfl

/-- Settles O30: each of the three endings writes the response, the phase and `init` alone. -/
theorem repliesLeaveTheRest : Obligations.RepliesLeaveTheRest := by
  intro op r s t h
  obtain ⟨-, rfl⟩ | ⟨-, -, rfl⟩ | ⟨hv, hop, rfl⟩ := exec_replyInstr_next h
  · exact ⟨readByte_of_same_buffers rfl rfl, rfl, rfl, rfl, rfl, rfl, rfl, fun _ => ⟨rfl, rfl⟩⟩
  · exact ⟨readByte_of_same_buffers rfl rfl, rfl, rfl, rfl, rfl, rfl, rfl, fun _ => ⟨rfl, rfl⟩⟩
  · exact ⟨readByte_of_same_buffers rfl rfl, rfl, rfl, rfl, rfl, rfl, rfl, by simp [hv, hop]⟩

/-- Settles O58: the raw value has 16 bits. -/
theorem concentrationIsATenth : Obligations.ConcentrationIsATenth := by
  intro raw
  have hmax : (raw.toNat : Rat) ≤ 65535 := by
    have hlt : raw.toNat < 65536 := raw.isLt
    exact_mod_cast Nat.le_of_lt_succ hlt
  refine ⟨by simp [concentration], ?_, ?_, fun raw' hsucc => ?_⟩
  · simp only [concentration]; positivity
  · simp only [concentration]; gcongr
  · simp only [concentration, hsucc]; push_cast; ring

/-- Settles O59: a valid measurement is one the host can read, and without one the first field it reads carries no
meaning. -/
theorem messageOfAMeasurement : Obligations.MessageOfAMeasurement := by
  refine ⟨fun F pmFloat epoch now s r hv => ⟨_, exec_replyMeasurement_of_valid hv s, ?_⟩,
    fun F pmFloat epoch now s hno => ?_⟩
  · have hstatus : statusOk ≤ 4 := by decide
    rw [formMessage_of_measurement pmFloat epoch now rfl rfl hstatus]
    simp only [respondMeasurement_rsp_pm25Raw, respondMeasurement_rsp_pm10Raw, pm25Of, pm10Of, concentration,
      toNat_le16, timestamp]
  · have hpm25 : hostRead .pm25Raw s = .error (.hostRead .pm25Raw) :=
      hostRead_of_no_meaning (not_carriesMeaning_iff.mpr ⟨by simp, by simpa using hno⟩)
    simp only [formMessage, hpm25]

end Sys2Proof.Machine
end

section
/-! PROOFS. The transactions, step by step: the turns without an event (R140), what the transport's answer does in `TX`
and in `RX` (R146 to R148), where a transaction ends (R142, R149), what becomes of an offered request (R143, R145), and
that none is repeated (R154). -/

namespace Sys2Proof.Machine

/-! ## Turns without an event (R140) -/

theorem takeTurn_of_turn {s : State} {turn : Turn} {ts : List Turn} (hs : s.env.schedule = turn :: ts) :
    takeTurn s = s.withSchedule ts := by
  rw [takeTurn_eq_withSchedule, hs, List.tail_cons]

theorem step_of_no_turn {s : State} (hs : s.env.schedule = []) : step s = .next s := by simp [step, fetch, hs]

theorem step_host_of_no_request {s : State} {ts : List Turn} (hs : s.env.schedule = .host :: ts)
    (hh : s.env.host = []) : step s = .next (takeTurn s) := by
  simp [step, fetch, hs, hostTurn, hh]

theorem step_transport_of_not_busy {s : State} {ts : List Turn} (hs : s.env.schedule = .transport :: ts)
    (hb : s.phase.busy = false) : step s = .next (takeTurn s) := by
  cases hp : s.phase with
  | unopened | ready | failed => simp [step, fetch, hs, transportTurn, hp]
  | tx | rx => simp [hp, Phase.busy] at hb

theorem step_rx_of_no_answer {s : State} {ts : List Turn} (hs : s.env.schedule = .transport :: ts)
    (hp : s.phase = .rx) (ha : s.env.rxAns = []) : step s = .next (takeTurn s) := by
  simp [step, fetch, hs, transportTurn, hp, rxTurn, ha]

/-! ## The transport's answers -/

/-- R140: in phase `TX` the transport's turn is the answer to a `TxSend`. -/
theorem step_tx {s : State} {ts : List Turn} (hp : s.phase = .tx) (hs : s.env.schedule = .transport :: ts) :
    step s = txTurn (takeTurn s) := by
  simp [step, fetch, hs, transportTurn, hp]

@[simp] theorem readByte_takeTurn (buf : Buffer) (i : Nat) (s : State) :
    readByte buf i (takeTurn s) = readByte buf i s := by
  cases buf <;> rfl

section
variable {s : State} {ts : List Turn} {b : Byte} (hp : s.phase = .tx) (hs : s.env.schedule = .transport :: ts)
  (hb : readByte .tx s.txidx s = .ok b)
include hp hs hb

/-- R208: the transport does not answer the `TxSend`. -/
theorem step_tx_of_no_answer (ha : s.env.txAns = []) : step s = .next (takeTurn s) := by
  simp [step_tx hp hs, txTurn, hb, ha]

/-- R146: the transport accepts the offered byte. -/
theorem step_txAccepted {as : List TxAnswer} (ha : s.env.txAns = .accepted :: as) :
    step s = .next (txAccepted b (takeTxAnswer as (takeTurn s))) := by
  simp [step_tx hp hs, txTurn, hb, ha]

/-- R147: the write of the offered byte fails. -/
theorem step_txFails {k : TErr} {as : List TxAnswer} (ha : s.env.txAns = .failed k :: as) :
    step s = .next (raise (.transportError .write k) (takeTxAnswer as (takeTurn s))) := by
  simp [step_tx hp hs, txTurn, hb, ha]

end

/-- R148: the transport's turn in phase `RX` with a failed read. -/
theorem step_rxFails {s : State} {ts : List Turn} {k : TErr} {as : List RxAnswer} (hp : s.phase = .rx)
    (hs : s.env.schedule = .transport :: ts) (ha : s.env.rxAns = .failed k :: as) :
    step s = .next (raise (.transportError .read k) (takeRxAnswer as (takeTurn s))) := by
  simp [step, fetch, hs, transportTurn, hp, rxTurn, ha]

/-- Settles O19: the five turns without an event. -/
theorem noEventNoMove : Obligations.NoEventNoMove := by
  refine fun s => ⟨step_of_no_turn, fun ts => ⟨fun hs hh => ?_, fun hs hp => ?_, fun hs hp ha => ?_,
    fun b hs hp hb ha => ?_⟩⟩ <;> rw [← takeTurn_of_turn hs]
  · exact step_host_of_no_request hs hh
  · have hb : s.phase.busy = false := by rcases hp with hp | hp | hp <;> simp [hp, Phase.busy]
    exact step_transport_of_not_busy hs hb
  · exact step_rx_of_no_answer hs hp ha
  · exact step_tx_of_no_answer hp hs hb ha

/-- Settles O31: the boundary at the 19th byte is that of `txAccepted`. -/
theorem acceptedByteAdvances : Obligations.AcceptedByteAdvances := by
  intro s ts b rest hp hs hb ha
  rw [step_txAccepted hp hs hb ha, takeTurn_of_turn hs, txAccepted_eq]
  simp [takeTxAnswer, State.withSchedule, hp, Const.cmdLen]

/-- Settles O32: the step raises the error with its turn and its answer taken. -/
theorem failedWriteEnds : Obligations.FailedWriteEnds := by
  intro s ts b k rest hp hs hb ha
  rw [step_txFails hp hs hb ha, takeTurn_of_turn hs]
  rfl

/-- Settles O34: the step raises the error with its turn and its answer taken. -/
theorem failedReadEnds : Obligations.FailedReadEnds := by
  intro s ts k as hp hs ha
  rw [step_rxFails hp hs ha, takeTurn_of_turn hs]
  rfl

/-! ## Where a transaction ends (R142, R149) -/

/-- R142, R149, R178: the end of a transaction: a response, `init` 0, and the phase of its kind. -/
def EndsInItsPhase (init : Bool) (t : State) : Prop :=
  t.rsp.rspValid = true ∧ t.init = false ∧ (init = false → t.phase = .ready) ∧
    (init = true → (t.rsp.status = 0 → t.phase = .ready) ∧ (t.rsp.status ≠ 0 → t.phase = .failed))

theorem ErrInfo.code_ne_zero (e : ErrInfo) : e.code ≠ 0 := by
  cases e <;>
    simp [ErrInfo.code, statusTooLongWorkTime, statusEmptyDataFrame, statusBadChecksum, statusTransportError]

theorem raise_endsInItsPhase (e : ErrInfo) (s : State) : EndsInItsPhase s.init (raise e s) := by
  refine ⟨ofError_rspValid _ _, rfl, fun hi => ?_, fun hi => ⟨fun hst => ?_, fun _ => ?_⟩⟩
  · simp [hi, phaseAfterError]
  · exact absurd ((ofError_status _ e).symm.trans hst) e.code_ne_zero
  · simp [hi, phaseAfterError]

theorem respondConfirm_endsInItsPhase (init : Bool) (s : State) : EndsInItsPhase init (respondConfirm s) :=
  ⟨rfl, rfl, fun _ => rfl, fun _ => ⟨fun _ => rfl, fun hst => absurd rfl hst⟩⟩

theorem respondMeasurement_endsInItsPhase (init : Bool) (pm25 pm10 : Raw) (s : State) :
    EndsInItsPhase init (respondMeasurement pm25 pm10 s) :=
  ⟨rfl, rfl, fun _ => rfl, fun _ => ⟨fun _ => rfl, fun hst => absurd rfl hst⟩⟩

/-- Settles O42: in a busy phase an event either leaves the block in one, or raises an error, or responds. -/
theorem transactionEndsInItsPhase : Obligations.TransactionEndsInItsPhase := by
  intro s t hbusy hstep hdone hreset
  cases step_event hstep with
  | none ts ht _ | hostReads ts f v _ ht | rxByte ts b as _ _ _ _ ht =>
    subst ht
    exact absurd hdone (ne_false_of_eq_true hbusy)
  | reset ts hs _ => exact absurd (by simp [hs]) hreset
  | openFails ts w more k as _ _ _ hp | opens ts w more as _ _ _ hp | tooLong ts w more _ _ _ hp
  | setsWorkPeriod ts w more _ _ _ hp | queries ts w more _ _ _ hp => simp [hp, Phase.busy] at hbusy
  | txAccepted ts b as _ hp _ _ ht =>
    subst ht
    by_cases hlast : s.txidx + 1 = Const.cmdLen <;> simp [hlast, hp, Phase.busy] at hdone
  | txFails ts b k as _ _ _ _ ht | rxFails ts k as _ _ _ ht | badChecksum ts b as _ _ _ _ ht =>
    subst ht
    exact raise_endsInItsPhase _ _
  | confirms ts b as _ _ _ _ _ ht => subst ht; exact respondConfirm_endsInItsPhase _ _
  | measures ts b as r _ _ _ _ _ _ _ ht => subst ht; exact respondMeasurement_endsInItsPhase _ _ _ _

/-! ## An offered request (R143, R145) -/

/-- R141, R170, conflict C7: OPEN accepted, and the transport does not open. -/
theorem exec_open_fails {s : State} {k : TErr} {os : List OpenAnswer} (hp : s.phase = .unopened)
    (ha : s.env.openAns = .failed k :: os) :
    exec .setReportMode s = .next (raise (.transportError .opening k) (beginConstruction os s)) := by
  simp [exec, execSetReportMode, hp, ha]

/-- R144, R172: SET_WORK_PERIOD accepted with a period that is too long. -/
theorem exec_workPeriod_tooLong {s : State} {m : Byte} (hp : s.phase = .ready) (hm : legalPeriod m = false) :
    exec (.setWorkPeriod m) s = .next (raise .tooLongWorkTime (accept s)) := by
  simp [exec, execSetWorkPeriod, hp, hm]

/-- Settles O21: `op` and `init` are written before the open check, and the error is raised on them. -/
theorem failedOpenEndsInFailed : Obligations.FailedOpenEndsInFailed :=
  fun _ _ _ hp ha => exec_open_fails hp ha

/-- R143: outside the busy phases a command is refused in each phase but the one that accepts it. -/
theorem exec_command_refused {i : Instr} {s : State} (hi : acceptingPhase i ≠ .rx) (hb : s.phase.busy = false)
    (hp : s.phase ≠ acceptingPhase i) : exec i s = .refused (.wrongPhase s.phase) := by
  cases i with
  | setReportMode | query | setWorkPeriod m =>
    cases hq : s.phase <;>
      simp_all [exec, execSetReportMode, execQuery, execSetWorkPeriod, acceptingPhase, Phase.busy]
  | replyConfirm r | replyMeasurement r => exact absurd rfl hi

/-- What becomes of a request in the phase that accepts it, the transport's open outcome being `o`, step and
transaction-level function side by side. -/
inductive AcceptedCase (i : Instr) (o : OpenAnswer) (s : State) : Prop where
  /-- The transaction starts. -/
  | begins (hs : starts i s) (hx : transact i o = exchange (encode i) i.op)
  /-- The request ends at once with an error. -/
  | rejected (e : ErrInfo) (op : Op) (init : Bool) (os : List OpenAnswer)
      (he : exec i s = .next (raise e (acceptAs op init os s)))
      (hinit : s.init = false → init = decide (i = .setReportMode))
      (hx : ∀ ta ra, transact i o ta ra = some ([], .error e))

/-- R141, R143, R144, R151: a command in its accepting phase, OPEN with its outcome given, starts or is rejected. -/
theorem accepted_cases {i : Instr} {o : OpenAnswer} {s : State} (hi : acceptingPhase i ≠ .rx)
    (hp : s.phase = acceptingPhase i) (ho : i = .setReportMode → s.env.openAns.head? = some o) :
    AcceptedCase i o s := by
  cases i with
  | setReportMode =>
    obtain ⟨os, ha⟩ := List.head?_eq_some_iff.mp (ho rfl)
    cases o with
    | ok =>
      refine .begins ⟨hp, by rw [ha, List.head?_cons]⟩ ?_
      rw [← frameReportMode_eq_encode]
      rfl
    | failed k => exact .rejected _ _ _ os (exec_open_fails hp ha) (fun _ => rfl) fun _ _ => rfl
  | query =>
    refine .begins hp ?_
    rw [← frameQuery_eq_encode]
    rfl
  | setWorkPeriod m =>
    cases hm : legalPeriod m with
    | true =>
      refine .begins ⟨hp, (legalPeriod_iff m).mp hm⟩ ?_
      funext ta ra
      simp [transact, hm, frameWorkPeriod_eq_encode, Instr.op]
    | false =>
      exact .rejected _ _ _ _ (exec_workPeriod_tooLong hp hm) (fun hinit => hinit) fun _ _ => by simp [transact, hm]
  | replyConfirm r | replyMeasurement r => exact absurd rfl hi

/-- R84: no request word selects a reply. -/
theorem command_of_decodeRequest {w : ReqWord} {i : Instr} (hw : decodeRequest w = .ok i) : acceptingPhase i ≠ .rx := by
  obtain ⟨-, rfl⟩ | ⟨-, rfl⟩ | ⟨-, rfl⟩ := decodeRequest_ok hw <;> simp [acceptingPhase]

/-- R141, R144, R151: what accepting a request that starts writes. -/
theorem acceptStarting_eq_acceptAs (i : Instr) (s : State) :
    ∃ os, acceptStarting i s = acceptAs i.op (decide (i = .setReportMode)) os s := by
  cases i <;> exact ⟨_, rfl⟩

/-- Settles O25: the code 0b11 decodes to nothing; any other request is a command, which is held, refused or
accepted. -/
theorem acceptanceTable : Obligations.AcceptanceTable := by
  intro s ts w more hs hh
  have hrefused {i : Instr} (hw : decodeRequest w = .ok i) (hb : s.phase.busy = false)
      (hp : s.phase ≠ acceptingPhase i) : step s = .refused (.wrongPhase s.phase) :=
    (step_request hs hh hw).trans (exec_command_refused (command_of_decodeRequest hw) hb hp)
  refine ⟨fun hw => ?_, fun hw hp => ?_, fun hw hp => ?_, fun hw hp => ?_, fun i hw hp ho => ?_⟩
  · simp [step, fetch, hs, hostTurn, hh, judge, decodeRequest, hw]
  · obtain ⟨i, hw, hi⟩ := decodeRequest_command hw
    have hb : s.phase.busy = true := by rcases hp with hp | hp <;> simp [hp, Phase.busy]
    rw [step_request hs hh hw, ← takeTurn_of_turn hs]
    exact exec_command_of_busy hi hb
  · have hw : decodeRequest w = .ok .setReportMode := by simp [decodeRequest, hw]
    rcases hp with hp | hp <;> exact hrefused hw (by simp [hp, Phase.busy]) (by simp [hp, acceptingPhase])
  · have hw : decodeRequest w = .ok (.setWorkPeriod w.reqArg) ∨ decodeRequest w = .ok .query := by
      rcases hw with hw | hw <;> simp [decodeRequest, hw]
    rcases hw with hw | hw <;> rcases hp with hp | hp <;>
      exact hrefused hw (by simp [hp, Phase.busy]) (by simp [hp, acceptingPhase])
  · have hi := command_of_decodeRequest hw
    obtain ⟨o, ho⟩ : ∃ o, i = .setReportMode → s.env.openAns.head? = some o := by
      cases ha : s.env.openAns with
      | nil => exact ⟨.ok, fun hopen => absurd ha (ho hopen)⟩
      | cons o os => exact ⟨o, fun _ => rfl⟩
    rw [step_request hs hh hw]
    cases accepted_cases (s := takeTurn s) hi hp ho with
    | begins hst _ =>
      obtain ⟨os, hacc⟩ := acceptStarting_eq_acceptAs i (takeTurn s)
      refine ⟨_, exec_of_starts hst, ?_, .inl ⟨rfl, ?_, fun j hj => readByte_tx_of_holds hi rfl hj⟩⟩
      · simp [hacc, acceptAs, hh]
      · simp [hacc, acceptAs]
    | rejected e op init os he _ _ =>
      obtain ⟨hv, hend⟩ := raise_ended e (acceptAs op init os (takeTurn s))
      have hst : (raise e (acceptAs op init os (takeTurn s))).rsp.status ≠ 0 := by
        rw [raise_rsp, ofError_status]
        exact e.code_ne_zero
      exact ⟨_, he, by simp [acceptAs, hh], .inr ⟨hend, hv, hst⟩⟩

/-! ## No retry (R154) -/

/-- R140: outside the busy phases the transport's turns pass without an event. -/
theorem step_of_transport_turns {s : State} (hb : s.phase.busy = false)
    (hturns : ∀ turn ∈ s.env.schedule, turn = .transport) : step s = .next (takeTurn s) := by
  cases hs : s.env.schedule with
  | nil => rw [takeTurn_of_no_turn hs, step_of_no_turn hs]
  | cons turn ts =>
    obtain rfl := hturns turn (by simp [hs])
    exact step_transport_of_not_busy hs hb

theorem run_of_transport_turns {s : State} (hb : s.phase.busy = false)
    (hturns : ∀ turn ∈ s.env.schedule, turn = .transport) (k : Nat) :
    run k s = .next (s.withSchedule (s.env.schedule.drop k)) := by
  induction k generalizing s with
  | zero => rfl
  | succ k ih =>
    have hrest := ih (s := takeTurn s) hb fun turn ht => hturns turn (List.mem_of_mem_tail ht)
    simp only [run, step_of_transport_turns hb hturns, hrest]
    simp [State.withSchedule, takeTurn, List.drop_tail]

/-- Settles O49: the events that lead from a phase that is not busy to a busy one are the host's. -/
theorem noRetry : Obligations.NoRetry := by
  refine ⟨fun s t hb hstep hbusy => ?_, fun s k hb hturns => run_of_transport_turns hb hturns k⟩
  cases step_event hstep with
  | none ts ht _ | hostReads ts f v _ ht => subst ht; exact absurd hb (ne_false_of_eq_true hbusy)
  | reset ts _ ht => subst ht; exact absurd hbusy Bool.false_ne_true
  | openFails ts w more k as hs hh | opens ts w more as hs hh | tooLong ts w more hs hh
  | setsWorkPeriod ts w more hs hh | queries ts w more hs hh => exact ⟨ts, w, more, hs, hh⟩
  | txAccepted ts b as _ hp | txFails ts b k as _ hp | rxFails ts k as _ hp | rxByte ts b as _ hp
  | badChecksum ts b as _ hp | confirms ts b as _ hp | measures ts b as r _ hp => simp [hp, Phase.busy] at hb

end Sys2Proof.Machine
end

section
/-! PROOFS. The transaction-level function (R150): what one answer of the transport makes of an exchange, and the order in
which the checks of a request are reported (R176). -/

namespace Sys2Proof.Machine

/-! ## The two loops, an answer at a time -/

/-- R130, R150: the result of the second loop, with the reply bytes `got` received before it. -/
def resultOfReceived (op : Op) (got : List Byte) : Except TErr (List Byte) → Option Result
  | .error k => some (.error (.transportError .read k))
  | .ok bytes => parseBytes op (got ++ bytes)

theorem parseBytes_eq_some {op : Op} {bytes : List Byte} {res : Result} (h : parseBytes op bytes = some res) :
    ∃ r : ReplyFrame, r.toBytes = bytes ∧ parse op r = res := by
  unfold parseBytes at h
  split at h
  · exact ⟨⟨_, _, _, _, _, _, _, _, _, _⟩, rfl, Option.some.inj h⟩
  · cases h

/-- R150: with the frame sent, an exchange is its second loop. -/
theorem exchange_of_sent {F sent : List Byte} {ta : List TxAnswer} (h : sendFrame F ta = some (sent, none)) (op : Op)
    (ra : List RxAnswer) :
    exchange F op ta ra = ((receive 10 ra).bind (resultOfReceived op [])).map (sent, ·) := by
  simp only [exchange, h, Const.replyLen]
  rcases receive 10 ra with _ | (_ | _) <;> rfl

/-- R150: a failed write is the result, whatever the replies would be. -/
theorem exchange_cons_failed (b : Byte) (F : List Byte) (op : Op) (k : TErr) (ta : List TxAnswer)
    (ra : List RxAnswer) :
    exchange (b :: F) op (.failed k :: ta) ra = some ([], .error (.transportError .write k)) := rfl

/-- R150: an accepted byte is one byte more sent. -/
theorem exchange_cons_accepted (b : Byte) (F : List Byte) (op : Op) (ta : List TxAnswer) (ra : List RxAnswer) :
    exchange (b :: F) op (.accepted :: ta) ra = (exchange F op ta ra).map (Prod.map (b :: ·) id) := by
  rcases hF : sendFrame F ta with _ | ⟨sent, _ | k⟩
  · simp [exchange, sendFrame, hF]
  · have hbF : sendFrame (b :: F) (.accepted :: ta) = some (b :: sent, none) := by simp [sendFrame, hF]
    rw [exchange_of_sent hF, exchange_of_sent hbF, Option.map_map]
    rfl
  · simp [exchange, sendFrame, hF]

/-- R150: with the whole frame accepted, an exchange is its second loop. -/
theorem exchange_all_accepted (F : List Byte) (op : Op) (ta : List TxAnswer) (ra : List RxAnswer) :
    exchange F op (List.replicate F.length .accepted ++ ta) ra =
      ((receive 10 ra).bind (resultOfReceived op [])).map (F, ·) := by
  induction F with
  | nil => exact exchange_of_sent rfl op ra
  | cons b F ih =>
    rw [List.length_cons, List.replicate_succ, List.cons_append, exchange_cons_accepted, ih, Option.map_map]
    rfl

theorem receive_bytes (bs : List Byte) (ra : List RxAnswer) :
    receive bs.length (bs.map .byte ++ ra) = some (.ok bs) := by
  induction bs with
  | nil => rfl
  | cons b bs ih => simp [receive, ih, Except.map]

theorem receive_failed {n : Nat} {bs : List Byte} (hn : bs.length < n) (k : TErr) (ra : List RxAnswer) :
    receive n (bs.map .byte ++ .failed k :: ra) = some (.error k) := by
  induction bs generalizing n with
  | nil =>
    obtain ⟨n, rfl⟩ := Nat.exists_eq_add_one_of_ne_zero (Nat.ne_of_gt hn)
    rfl
  | cons b bs ih =>
    obtain ⟨n, rfl⟩ := Nat.exists_eq_add_one_of_ne_zero (Nat.ne_of_gt (Nat.zero_lt_of_lt hn))
    simp [receive, ih (Nat.lt_of_succ_lt_succ hn), Except.map]

/-! ## The order of the checks (R176) -/

/-- R147: a write that fails after `n` accepted bytes. -/
theorem exchange_write_fails {n : Nat} {F : List Byte} (hn : n < F.length) (op : Op) (k : TErr) (ta : List TxAnswer)
    (ra : List RxAnswer) :
    exchange F op (List.replicate n .accepted ++ .failed k :: ta) ra =
      some (F.take n, .error (.transportError .write k)) := by
  induction F generalizing n with
  | nil => simp at hn
  | cons b F ih =>
    cases n with
    | zero => rfl
    | succ n =>
      rw [List.replicate_succ, List.cons_append, exchange_cons_accepted, ih (Nat.lt_of_succ_lt_succ hn)]
      rfl

/-- R176: the verdict of a reply comes last. -/
theorem parse_eq_of_verdict (op : Op) (r : ReplyFrame) :
    (parse op r : Result) = if r.valid then parse op r else .error .badChecksum := by
  cases hv : r.valid with
  | true => rfl
  | false => simp [parse_eq, hv]

/-- Settles O53: a check further on is made only when the loop before it has gone through. -/
theorem errorsInTheirOrder : Obligations.ErrorsInTheirOrder := by
  refine ⟨fun m o ta ra hm => ?_, fun _ _ _ => rfl, fun F op n k ta ra hn => exchange_write_fails hn op k ta ra,
    fun F bs op k ta ra hbs => ?_, fun F op r ta ra => ?_⟩
  · have hlong : legalPeriod m ≠ true := fun hl => absurd ((legalPeriod_iff m).mp hl) (Nat.not_le.mpr hm)
    simp [transact, hlong]
  · rw [exchange_all_accepted, receive_failed hbs]
    rfl
  · have hgot : receive 10 (r.toBytes.map .byte ++ ra) = some (.ok r.toBytes) := receive_bytes r.toBytes ra
    rw [exchange_all_accepted, hgot, ← parse_eq_of_verdict]
    rfl

end Sys2Proof.Machine
end

section
/-! PROOFS. The steps compute the transaction-level function (R150): while a frame is sent and while its reply is received,
the turns still to come complete what is left of the exchange; the accepting step begins it. -/

namespace Sys2Proof.Machine

/-! ## A transaction completed -/

/-- R142, R149: the phase in which a transaction with this result ends. -/
def phaseAfterResult (init : Bool) : Result → Phase
  | .error _ => phaseAfterError init
  | .confirm | .measurement _ _ => .ready

theorem phaseAfterResult_busy (init : Bool) (res : Result) : (phaseAfterResult init res).busy = false := by
  cases res <;> cases init <;> rfl

theorem phaseAfterResult_eq_phaseAfter (i : Instr) (res : Result) :
    phaseAfterResult (decide (i = .setReportMode)) res = phaseAfter i res := by
  cases i <;> cases res <;> rfl

/-- R150: from `s` to `t` the rest of a transaction has sent the bytes `sent` and ended with the result `res`. -/
structure Completes (s t : State) (sent : List Byte) (res : Result) : Prop where
  sent : t.env.sent = s.env.sent ++ sent
  result : t.rsp.result = some res
  phase : t.phase = phaseAfterResult s.init res
  init : t.init = false
  host : t.env.host = s.env.host

/-- R130, R171: a response register an error was written to stands for that error. -/
theorem ofError_result (r : Rsp) (e : ErrInfo) : (r.ofError e).result = some (.error e) := by
  cases e with
  | transportError stage k => cases stage <;> rfl
  | tooLongWorkTime | emptyDataFrame | badChecksum => rfl

theorem raise_completes (e : ErrInfo) (s : State) : Completes s (raise e s) [] (.error e) where
  sent := (List.append_nil _).symm
  result := ofError_result s.rsp e
  phase := rfl
  init := rfl
  host := rfl

theorem exec_replyInstr_completes (op : Op) (r : ReplyFrame) (s : State) :
    ∃ t, exec (replyInstr op r) s = .next t ∧ Completes s t [] (parse op r) := by
  obtain ⟨t, ht, hres⟩ := repliesAgreeWithParse op r s
  refine ⟨t, ht, ?_⟩
  obtain ⟨_, rfl⟩ | ⟨_, _, rfl⟩ | ⟨_, _, rfl⟩ := exec_replyInstr_next ht
  all_goals exact ⟨by simp, hres, by simp [parse_eq, *, phaseAfterResult], rfl, rfl⟩

/-- A step that keeps `init` and the requests, and sends `a`, comes before the rest of the transaction. -/
theorem Completes.of_step {s u t : State} {a sent : List Byte} {res : Result} (h : Completes u t sent res)
    (hsent : u.env.sent = s.env.sent ++ a) (hinit : u.init = s.init) (hhost : u.env.host = s.env.host) :
    Completes s t (a ++ sent) res where
  sent := by rw [h.sent, hsent, List.append_assoc]
  result := h.result
  phase := hinit ▸ h.phase
  init := h.init
  host := h.host.trans hhost

/-- R150: `n` turns complete the transaction. -/
def State.CompletesIn (n : Nat) (s : State) (sent : List Byte) (res : Result) : Prop :=
  ∃ t, run n s = .next t ∧ Completes s t sent res

theorem run_succ_of_step {s u : State} (h : step s = .next u) (n : Nat) : run (n + 1) s = run n u := by
  simp [run, h]

theorem State.CompletesIn.of_step {n : Nat} {s u : State} {a sent : List Byte} {res : Result}
    (h : u.CompletesIn n sent res) (hstep : step s = .next u) (hsent : u.env.sent = s.env.sent ++ a)
    (hinit : u.init = s.init) (hhost : u.env.host = s.env.host) : s.CompletesIn (n + 1) (a ++ sent) res := by
  obtain ⟨t, ht, hc⟩ := h
  exact ⟨t, (run_succ_of_step hstep n).trans ht, hc.of_step hsent hinit hhost⟩

/-- R154: once a transaction is over, the turns of the transport that are left change nothing. -/
theorem Completes.after_idle_turns {s t : State} {n : Nat} {sent : List Byte} {res : Result} (h : Completes s t sent res)
    (hs : t.env.schedule = List.replicate n .transport) : ∃ u, run n t = .next u ∧ Completes s u sent res := by
  have hb : t.phase.busy = false := h.phase ▸ phaseAfterResult_busy s.init res
  have hturns : ∀ turn ∈ t.env.schedule, turn = .transport := by
    rw [hs]
    exact fun turn => List.eq_of_mem_replicate
  exact ⟨_, run_of_transport_turns hb hturns n, { h with }⟩

/-- A step that ends the transaction. -/
theorem completesIn_of_last_step {n : Nat} {s u t : State} {res : Result} (h : Completes u t [] res)
    (hstep : step s = .next t) (hs : t.env.schedule = List.replicate n .transport)
    (hsent : u.env.sent = s.env.sent) (hinit : u.init = s.init) (hhost : u.env.host = s.env.host) :
    s.CompletesIn (n + 1) [] res := by
  obtain ⟨v, hv, hc⟩ := h.after_idle_turns hs
  exact ⟨v, (run_succ_of_step hstep n).trans hv, hc.of_step (a := []) (by simp [hsent]) hinit hhost⟩

/-! ## Receiving -/

/-- R23, R120: in phase `RX` the bytes `got` are received, and the reply is not filled. -/
structure State.Receiving (s : State) (got : List Byte) : Prop where
  phase : s.phase = .rx
  count : s.rxcnt = got.length
  room : got.length < 10
  stored : ∀ j < got.length, s.rx.lookup j = got[j]?

theorem State.Receiving.after_store {s : State} {got : List Byte} (h : s.Receiving got)
    (hn : got.length + 1 < 10) (b : Byte) : (storeReplyByte b s).Receiving (got ++ [b]) where
  phase := h.phase
  count := by simp [h.count]
  room := by simpa using hn
  stored := by
    intro j hj
    simp only [storeReplyByte_rx, h.count]
    by_cases hlast : j = got.length
    · simp [hlast, lookup_write_same]
    · have hlt : j < got.length := by simp at hj; omega
      rw [lookup_write_other s.rx b hlast, h.stored j hlt, List.getElem?_append_left hlt]

/-- R120, R124: the tenth byte ends the transaction with the result `parse` gives. -/
theorem State.Receiving.step_last {s : State} {got : List Byte} {b : Byte} {ts : List Turn} {as : List RxAnswer}
    {r : ReplyFrame} (h : s.Receiving got) (hr : r.toBytes = got ++ [b]) (hs : s.env.schedule = .transport :: ts)
    (ha : s.env.rxAns = .byte b :: as) :
    ∃ t, step s = .next t ∧ t.env.schedule = ts ∧
      Completes (storeReplyByte b (takeRxAnswer as (takeTurn s))) t [] (parse s.op r) := by
  have hsplit : r.toBytes.take 9 ++ [r.tail] = got ++ [b] := hr
  obtain ⟨hgot, hb⟩ := List.append_inj' hsplit rfl
  obtain rfl : r.tail = b := by simpa using hb
  have hlen : got.length = 9 := by rw [← hgot]; rfl
  have hnine : ∀ j, j < 9 → s.rx.lookup j = r.toBytes[j]? := by
    intro j hj
    rw [h.stored j (hlen ▸ hj), ← hgot, List.getElem?_take_of_lt hj]
  obtain ⟨t, ht, hc⟩ :=
    exec_replyInstr_completes s.op r (storeReplyByte r.tail (takeRxAnswer as (takeTurn s)))
  refine ⟨t, (step_lastReplyByte h.phase (h.count.trans hlen) hs ha hnine).trans ht, ?_, hc⟩
  obtain ⟨-, henv⟩ := exec_replyInstr_ended ht
  simp [henv, hs]

/-- R150, second loop: `n` replies still to come, and at least as many turns. -/
theorem State.Receiving.completesIn {n k : Nat} {s : State} {got : List Byte} {x : Except TErr (List Byte)}
    {res : Result} (h : s.Receiving got) (hn : got.length + n = 10) (hk : n ≤ k)
    (hs : s.env.schedule = List.replicate k .transport) (hx : receive n s.env.rxAns = some x)
    (hres : resultOfReceived s.op got x = some res) : s.CompletesIn k [] res := by
  induction n generalizing s got k x with
  | zero => exact absurd h.room (by omega)
  | succ n ih =>
    obtain ⟨k, rfl⟩ := Nat.exists_eq_add_one_of_ne_zero (Nat.ne_of_gt (Nat.zero_lt_of_lt hk))
    rw [List.replicate_succ] at hs
    cases ha : s.env.rxAns with
    | nil => simp [ha, receive] at hx
    | cons a as =>
      cases a with
      | failed e =>
        obtain rfl : Except.error e = x := by simpa [ha, receive] using hx
        obtain rfl : Result.error (.transportError .read e) = res := Option.some.inj hres
        exact completesIn_of_last_step (raise_completes _ _) (step_rxFails h.phase hs ha) (by simp [hs]) rfl rfl rfl
      | byte b =>
        obtain ⟨y, hy, rfl⟩ : ∃ y, receive n as = some y ∧ y.map (b :: ·) = x := by simpa [ha, receive] using hx
        have hres' : resultOfReceived s.op (got ++ [b]) y = some res := by
          cases y <;> simpa [resultOfReceived, Except.map] using hres
        by_cases hlast : got.length + 1 < 10
        · have hnext := State.Receiving.after_store (s := takeRxAnswer as (takeTurn s)) { h with } hlast b
          refine State.CompletesIn.of_step (a := [])
            (ih hnext (by simp; omega) (by omega) (by simp [hs]) hy hres') (step_rxByte h.phase ?_ hs ha)
            (by simp) rfl rfl
          rw [h.count]
          exact hlast
        · obtain rfl : n = 0 := by omega
          obtain rfl : Except.ok [] = y := by simpa [receive] using hy
          obtain ⟨r, hr, rfl⟩ := parseBytes_eq_some hres'
          rw [List.append_nil] at hr
          obtain ⟨t, ht, hts, hc⟩ := h.step_last hr hs ha
          exact completesIn_of_last_step hc ht hts rfl rfl rfl

/-! ## Sending -/

section
variable (b : Byte) (s : State)

@[simp] theorem txAccepted_op : (txAccepted b s).op = s.op := by rw [txAccepted_eq]
@[simp] theorem txAccepted_init : (txAccepted b s).init = s.init := by rw [txAccepted_eq]
@[simp] theorem txAccepted_env_schedule : (txAccepted b s).env.schedule = s.env.schedule := by rw [txAccepted_eq]
@[simp] theorem txAccepted_env_host : (txAccepted b s).env.host = s.env.host := by rw [txAccepted_eq]
@[simp] theorem txAccepted_env_txAns : (txAccepted b s).env.txAns = s.env.txAns := by rw [txAccepted_eq]

end

/-- R22, R104: in phase `TX` the bytes `F` of the frame are still to be sent. -/
structure State.Sending (s : State) (F : List Byte) : Prop where
  phase : s.phase = .tx
  count : s.txidx + F.length = 19
  held : ∀ j < F.length, s.tx.lookup (s.txidx + j) = F[j]?

theorem State.Sending.offered {s : State} {b : Byte} {F : List Byte} (h : s.Sending (b :: F)) :
    readByte .tx s.txidx s = .ok b := by
  have hcount := h.count
  rw [List.length_cons] at hcount
  exact readByte_ok.mpr ⟨by simp only [Buffer.size, Const.cmdLen]; omega, h.held 0 (Nat.zero_lt_succ _)⟩

/-- R146: a byte accepted that is not the 19th. -/
theorem State.Sending.after_accepted {s : State} {b c : Byte} {F : List Byte} (h : s.Sending (b :: c :: F)) :
    (txAccepted b s).Sending (c :: F) := by
  have hcount := h.count
  simp only [List.length_cons] at hcount
  have hmore : ¬ s.txidx + 1 = Const.cmdLen := by simp only [Const.cmdLen]; omega
  refine ⟨by simp [hmore, h.phase], by simp; omega, fun j hj => ?_⟩
  have hheld := h.held (j + 1) (Nat.succ_lt_succ hj)
  rw [List.getElem?_cons_succ] at hheld
  rw [txAccepted_tx, txAccepted_txidx, ← hheld, Nat.add_assoc, Nat.add_comm 1 j]

/-- R146: the 19th byte accepted. -/
theorem State.Sending.after_last_accepted {s : State} {b : Byte} (h : s.Sending [b]) :
    (txAccepted b s).Receiving [] := by
  have hlast : s.txidx + 1 = Const.cmdLen := h.count
  exact ⟨by simp [hlast], by simp [txAccepted_eq, hlast], by simp, by simp⟩

/-- R150, both loops: the bytes `F` still to be sent, and a turn for each and for ten replies. -/
theorem State.Sending.completesIn {F : List Byte} {k : Nat} {s : State} {sent : List Byte} {res : Result}
    (h : s.Sending F) (hF : F ≠ []) (hk : F.length + 10 ≤ k) (hs : s.env.schedule = List.replicate k .transport)
    (hx : exchange F s.op s.env.txAns s.env.rxAns = some (sent, res)) : s.CompletesIn k sent res := by
  induction F generalizing s k sent with
  | nil => exact absurd rfl hF
  | cons b F ih =>
    rw [List.length_cons] at hk
    obtain ⟨k, rfl⟩ := Nat.exists_eq_add_one_of_ne_zero (n := k) (by omega)
    rw [List.replicate_succ] at hs
    cases ha : s.env.txAns with
    | nil => simp [ha, exchange, sendFrame] at hx
    | cons a as =>
      cases a with
      | failed e =>
        rw [ha, exchange_cons_failed] at hx
        cases hx
        exact completesIn_of_last_step (raise_completes _ _) (step_txFails h.phase hs h.offered ha) (by simp [hs])
          rfl rfl rfl
      | accepted =>
        rw [ha, exchange_cons_accepted] at hx
        obtain ⟨⟨sent, res⟩, hrest, ⟨⟩⟩ := Option.map_eq_some_iff.mp hx
        have h' : (takeTxAnswer as (takeTurn s)).Sending (b :: F) := { h with }
        refine State.CompletesIn.of_step (a := [b]) ?_ (step_txAccepted h.phase hs h.offered ha)
          (by simp) (by simp) (by simp)
        cases F with
        | cons c F => exact ih h'.after_accepted (List.cons_ne_nil c F) (by omega) (by simp [hs]) (by simpa using hrest)
        | nil =>
          rw [exchange_of_sent rfl] at hrest
          obtain ⟨res, hreply, ⟨⟩⟩ := Option.map_eq_some_iff.mp hrest
          obtain ⟨x, hgot, hres⟩ := Option.bind_eq_some_iff.mp hreply
          exact h'.after_last_accepted.completesIn (n := 10) rfl (by omega) (by simp [hs]) (by simpa using hgot)
            (by simpa using hres)

/-! ## The accepting step -/

/-- R104: a frame just started is still to be sent. -/
theorem startFrame_sending {F : List Byte} (hF : F.length = 19) (s : State) : (startFrame F s).Sending F :=
  ⟨rfl, by simp [hF], fun j _ => by simp [lookup_ofBytes]⟩

/-- R150: from the state with the request accepted, the 29 turns that follow the accepting step complete what `transact`
computes. -/
theorem accepted_completes {s : State} {i : Instr} {o : OpenAnswer} {sent : List Byte} {res : Result}
    (hi : acceptingPhase i ≠ .rx) (hp : s.phase = acceptingPhase i) (hinit : s.init = false)
    (ho : i = .setReportMode → s.env.openAns.head? = some o)
    (hs : s.env.schedule = List.replicate 29 .transport)
    (hx : transact i o s.env.txAns s.env.rxAns = some (sent, res)) :
    ∃ op os t u, exec i s = .next t ∧ run 29 t = .next u ∧
      Completes (acceptAs op (decide (i = .setReportMode)) os s) u sent res := by
  cases accepted_cases hi hp ho with
  | begins hst htr =>
    obtain ⟨os, hacc⟩ := acceptStarting_eq_acceptAs i s
    have hlen : (encode i).length = 19 := length_encode_command hi
    have hsend := startFrame_sending hlen (acceptAs i.op (decide (i = .setReportMode)) os s)
    obtain ⟨u, hu, hc⟩ := hsend.completesIn (k := 29) (by simp [← List.length_pos_iff, hlen]) (by omega) hs (htr ▸ hx)
    exact ⟨i.op, os, _, u, hacc ▸ exec_of_starts hst, hu, { hc with }⟩
  | rejected e op init os he hkind htr =>
    obtain ⟨rfl, rfl⟩ : [] = sent ∧ .error e = res := by simpa [htr] using hx
    obtain rfl := hkind hinit
    obtain ⟨u, hu, hc⟩ := (raise_completes e (acceptAs op _ os s)).after_idle_turns (n := 29) hs
    exact ⟨op, os, _, u, he, hu, hc⟩

/-- Settles O52: the host's turn accepts the request, and the transport's turns complete the transaction. -/
theorem stepsAgreeWithTransact : Obligations.StepsAgreeWithTransact := by
  intro s i w more o sent res hw hp hinit hh ho hs hx
  have hturns : (takeTurn s).env.schedule = List.replicate 29 .transport := by simp [hs]
  obtain ⟨op, os, t, u, ht, hu, hc⟩ :=
    accepted_completes (s := takeTurn s) (command_of_decodeRequest hw) hp hinit ho hturns hx
  have hrun : run 30 s = .next u := (run_succ_of_step ((step_request hs hh hw).trans ht) 29).trans hu
  exact ⟨u, hrun, hc.sent, hc.result, hc.phase.trans (phaseAfterResult_eq_phaseAfter i res), hc.init,
    by simp [hc.host, acceptAs, hh]⟩

end Sys2Proof.Machine
end

section
/-! PROOFS. Two exceptions in full: the whole next state of a rejected work period (R172) and of a reply with a wrong
checksum (R174). -/

namespace Sys2Proof.Machine

/-- R170, R178: all that an error without a transport stage writes; the stage and its value are left. -/
theorem raise_eq_of_no_stage {e : ErrInfo} (he : e.code ≠ statusTransportError) (s : State) : raise e s =
    { s with
      rsp := { s.rsp with status := e.code, pmValid := false, rspValid := true }
      phase := if s.init then .failed else .ready
      init := false } := by
  cases e with
  | transportError stage k => exact absurd rfl he
  | tooLongWorkTime | emptyDataFrame | badChecksum => rfl

/-- R174: an invalid reply raises BAD_CHECKSUM, whichever operation reads it. -/
theorem exec_replyInstr_of_invalid {r : ReplyFrame} (hv : r.valid = false) (op : Op) (s : State) :
    exec (replyInstr op r) s = .next (raise .badChecksum s) := by
  simp [exec_replyInstr, hv]

/-- Settles O23: with `init` 0 the error leaves the block in `READY`, the phase it was in, and `init` as it was. -/
theorem longWorkPeriodRejected : Obligations.LongWorkPeriodRejected := by
  intro s m hp hinit hm
  have hlong : legalPeriod m = false := by
    rw [Bool.eq_false_iff, Ne, legalPeriod_iff]
    exact Nat.not_le.mpr hm
  rw [exec_workPeriod_tooLong hp hlong, raise_eq_of_no_stage (e := .tooLongWorkTime) (by decide)]
  simp [accept, hinit, ← hp, ErrInfo.code, statusTooLongWorkTime]

/-- Settles O29: the step executes the ten bytes as a reply under `op`, and that reply is invalid. -/
theorem badChecksumRaised : Obligations.BadChecksumRaised := by
  intro s ts as r hp hn hs ha hbytes hsum
  have hv : r.valid = false := (valid_eq_false_iff r).mpr hsum
  rw [stepRunsTheReply s ts as r _ hp hn hs ha hbytes (decode_toBytes s.op r), exec_replyInstr_of_invalid hv,
    raise_eq_of_no_stage (e := .badChecksum) (by decide)]
  rfl

end Sys2Proof.Machine
end

section
/-! PROOFS. A reset in the middle of a transaction: the block stands in a phase that is not busy, so nothing is asked of
the transport afterwards (R200, R201). -/

namespace Sys2Proof.Machine

/-- R200: the reset's turn resets the block, and of the environment takes only that turn. -/
theorem step_reset {s : State} {ts : List Turn} (hs : s.env.schedule = .reset :: ts) :
    step s = .next (resetBlock (s.withSchedule ts)) := by
  rw [← takeTurn_of_turn hs]
  simp [step, fetch, hs]

/-- Settles O35: the reset block is not busy, and the transport's turns pass a block that is not busy by (R140). -/
theorem resetAbandonsTheTransaction : Obligations.ResetAbandonsTheTransaction := by
  intro s ts hs
  refine ⟨_, step_reset hs, rfl, rfl, fun hturns k => ?_⟩
  have hidle : (resetBlock (s.withSchedule ts)).phase.busy = false := rfl
  exact run_of_transport_turns hidle hturns k

end Sys2Proof.Machine
end
